-- ==== Sys2Proof/Word.lean ====
section
/-! DEFINITION. The two word types of the block: 32-bit registers (00 R6) and 8-bit buffer bytes (10 R35). -/

namespace Sys2Proof

/-- A 32-bit register, command word or bus word (00 R6, R9). -/
abbrev Word := BitVec 32

/-- One byte of the buffer RAM (10 R35). -/
abbrev Byte := BitVec 8

end Sys2Proof
end

