-- ==== Sys2Proof/Config.lean ====
section
/-! DEFINITION. What an implementation of the block fixes (00 R6), and the one free value of the model. -/

namespace Sys2Proof.Config

/-- The least legal BUF_BYTES (00 R6). -/
def minBufBytes : Nat := 12

/-- The greatest legal BUF_BYTES (00 R6). -/
def maxBufBytes : Nat := 8192

/-- The reference value of BUF_BYTES, used in every example of the spec (00 R6). Only `State.reset` uses it: the
model takes BUF_BYTES from the state (log 1). -/
def referenceBufBytes : Nat := 256

/-- What a BUF byte holds that nothing has written since the power-on of the given number: an unconstrained value per
byte, stable until the byte is written (70 R222, 93 U1). Arguments: the number of the power-on, the byte's window offset.
It has no body, so nothing can be proved of its value. DESIGN CHOICE (log 3), safe. -/
opaque powerOnByte : Nat → Nat → Byte

end Sys2Proof.Config
end

