-- ==== Sys2Proof/Machine/State.lean ====
section
/-! DEFINITION. The state of the block (10_state.md), the inputs of the outside world, and the state after power-on. -/

namespace Sys2Proof.Machine

/-- STATUS.VALIDITY (10 R23, R38). The encoding 11 is never produced, so it is no value of the type (log 12). -/
inductive Validity where
  /-- 00: no VERIFY has completed in this sealed phase. -/
  | none
  /-- 01: the computed CRC equals the check field. -/
  | valid
  /-- 10: it does not. -/
  | invalid
deriving DecidableEq, Repr

/-- The error codes of 60 R200. The codes 6 to 15 are never produced, so they are no values of the type (log 12). -/
inductive ErrCode where
  /-- 0: success, a CRC mismatch included. -/
  | ok
  /-- 1: a bit index at or beyond VLEN, or a SLICE end beyond VLEN. -/
  | bounds
  /-- 2: the command word fails decoding. -/
  | illegal
  /-- 3: a selector or configuration value outside its legal range. -/
  | badArg
  /-- 4: a command that reads the buffer, while SEALED = 0. -/
  | notSealed
  /-- 5: SEAL while sealed, or RELEASE while not sealed. -/
  | state
deriving DecidableEq, Repr

/-- One segment descriptor of the protected range (10 R31). -/
structure Segment where
  /-- SEG[k].START -/
  start : Word
  /-- SEG[k].LEN -/
  len : Word
deriving DecidableEq, Repr

/-- One CRC algorithm slot (10 R32). -/
structure AlgSlot where
  /-- POLY, without its x^W term -/
  poly : Word
  /-- INIT -/
  init : Word
  /-- XOROUT -/
  xorout : Word
  /-- ACFG.WIDTH, the CRC width W; 0 = not configured -/
  width : BitVec 6
deriving DecidableEq, Repr

/-- One band of a timer table (10 R34). -/
structure Band where
  /-- RANGE[15:0] -/
  lo : BitVec 16
  /-- RANGE[31:16] -/
  hi : BitVec 16
  /-- MULT[15:0], two's complement -/
  mult : BitVec 16
  /-- OFFSET[15:0], two's complement -/
  offset : BitVec 16
  /-- BFLAGS[0] -/
  en : Bool
  /-- BFLAGS[2:1] -/
  unit : BitVec 2
deriving DecidableEq, Repr

/-- The width of a bus access (20 R61, R62). -/
inductive Size where
  /-- 8 bits: BUF only. -/
  | byte
  /-- 16 bits: always a bus error. -/
  | half
  /-- 32 bits: at 4-byte-aligned offsets. -/
  | word
deriving DecidableEq, Repr

/-- One access of the host at a byte offset of the 16-bit window (20 R60, R61). -/
inductive Access where
  /-- `MemRead(addr, n)` (00 R11) -/
  | read (size : Size) (addr : BitVec 16)
  /-- `MemWrite(addr, n, v)` (00 R11) -/
  | write (size : Size) (addr : BitVec 16) (v : Word)
deriving DecidableEq, Repr

/-- One turn the outside world asks for. Turns are totally ordered (20 R70); which order they stand in is not fixed by
the spec (60 R207, 93 U4), so a state may hold any list of them (log 4). -/
inductive Turn where
  /-- the host's access is served -/
  | host (a : Access)
  /-- the engine takes one step -/
  | engine
  /-- the platform's reset input is asserted (70 R220) -/
  | resetInput
  /-- the supply returns: BUF is drawn anew (70 R222) -/
  | powerUp
deriving DecidableEq, Repr

/-- The bus's answer to one access. A write is answered with data 0; a bus error with `error` set and data 0
(20 R62, log 5). -/
structure Response where
  /-- the data of a read -/
  data : Word
  /-- the error response -/
  error : Bool
deriving DecidableEq, Repr

/-- The bytes of the buffer RAM that were written since power-on, at their window offsets, offsets strictly rising. An
offset with no entry has no value here; reading it gives `Config.powerOnByte` (log 3, log 11). -/
abbrev Memory := List Host.Cell

/-- The canonical form of a memory: offsets strictly rising, so no offset is listed twice. -/
abbrev Memory.wf (m : Memory) : Prop := m.Pairwise (fun a b => a.1 < b.1)

/-- Everything the spec gives the machine (10_state.md), and the outside world's part: `waits`, `agenda`, `responses`. -/
structure State where
  /-- BUF_BYTES, the constant PARAM shows (10 R21); a parameter of the block (00 R6), which nothing writes (log 1) -/
  bufBytes : Nat
  /-- CTRL.IE (10 R22) -/
  ie : Bool
  /-- STATUS.BUSY (10 R23) -/
  busy : Bool
  /-- STATUS.DONE (10 R23) -/
  done : Bool
  /-- STATUS.CACHED (10 R23) -/
  cached : Bool
  /-- STATUS.SEALED (10 R23, R37) -/
  isSealed : Bool
  /-- STATUS.VALIDITY (10 R23, R38) -/
  validity : Validity
  /-- STATUS.ERR (10 R23) -/
  err : ErrCode
  /-- STATUS.WERR (10 R23) -/
  werr : Bool
  /-- STATUS.OVF (10 R23) -/
  ovf : Bool
  /-- PENDING, or empty (10 R24, R37) -/
  pending : Option Word
  /-- the engine's progress through PENDING: engine steps left before the completing one (10 R37) -/
  progress : Nat
  /-- ARG0 (10 R25) -/
  arg0 : Word
  /-- ARG1 (10 R25) -/
  arg1 : Word
  /-- BUF_LEN (10 R26) -/
  bufLen : Word
  /-- VBASE (10 R27) -/
  vbase : Word
  /-- VLEN (10 R27) -/
  vlen : Word
  /-- SEGCNT.COUNT (10 R28) -/
  segCount : BitVec 5
  /-- RES_LO (10 R29) -/
  resLo : Word
  /-- RES_HI (10 R29) -/
  resHi : Word
  /-- RES_AUX (10 R29) -/
  resAux : Word
  /-- OFFS[0..63] (10 R30) -/
  offs : Vector Word 64
  /-- SEG[0..15] (10 R31) -/
  seg : Vector Segment 16
  /-- ALG[0..3] (10 R32) -/
  alg : Vector AlgSlot 4
  /-- TCFG[0..3].WIDTH (10 R33) -/
  tcfg : Vector (BitVec 5) 4
  /-- BAND[0..3][0..7] (10 R34) -/
  bands : Vector (Vector Band 8) 4
  /-- BUF (10 R35) -/
  mem : Memory
  /-- the model's own: the number of this power-on (log 3) -/
  powerOns : Nat
  /-- the model's own: LATENCY less one of each coming command (00 R6, log 2) -/
  waits : List Nat
  /-- the model's own: the turns still to come (log 4) -/
  agenda : List Turn
  /-- the model's own: the bus's answers, newest first (log 5) -/
  responses : List Response
deriving DecidableEq, Repr

/-- Why a step stops the machine. -/
inductive Fault where
  /-- Raised by a command's read of the buffer (`withBits`) when a byte it needs lies beyond BUF_BYTES, where no byte
  exists. 20 R76 says the engine never does this, and no state that meets the invariant `Safety.Inv` reaches it. Safe:
  the model stops where the spec says nothing (log 6). -/
  | bufferOverrun
deriving DecidableEq, Repr

/-- Why a step has no meaning. -/
inductive Refusal where
  /-- Raised by an arm of `exec` whose instruction has no meaning yet. No arm raises it. Safe. -/
  | notModelled (mnemonic : String)
deriving DecidableEq, Repr

/-- The three outcomes of a step of this machine. -/
abbrev Result := Host.Outcome State Fault Refusal

/-- The block just after power-on (70 R221), for any BUF_BYTES and any LATENCY of the coming commands. BUF holds
unspecified values: nothing is listed (70 R222). -/
def State.powerOn (bufBytes : Nat) (waits : List Nat) : State where
  bufBytes := bufBytes
  ie := false
  busy := false
  done := false
  cached := false
  isSealed := false
  validity := .none
  err := .ok
  werr := false
  ovf := false
  pending := .none
  progress := 0
  arg0 := 0
  arg1 := 0
  bufLen := 0
  vbase := 0
  vlen := 0
  segCount := 0
  resLo := 0
  resHi := 0
  resAux := 0
  offs := Vector.replicate 64 0
  seg := Vector.replicate 16 ⟨0, 0⟩
  alg := Vector.replicate 4 ⟨0, 0, 0, 0⟩
  tcfg := Vector.replicate 4 0
  bands := Vector.replicate 4 (Vector.replicate 8 ⟨0, 0, 0, 0, false, 0⟩)
  mem := []
  powerOns := 0
  waits := waits
  agenda := []
  responses := []

/-- The machine right after reset (70 R221), with the reference value of BUF_BYTES (log 1) and no outside event to come
(log 4). -/
def State.reset : State := State.powerOn Config.referenceBufBytes []

end Sys2Proof.Machine
end

