-- ==== Sys2Proof/Machine/Flags.lean ====
section
/-! DEFINITION. The fields of STATUS and CTRL as the host sees and writes them (10 R22, R23), and the interrupt output
(60 R205). -/

namespace Sys2Proof.Machine

/-- The two-bit encoding of VALIDITY (10 R23). -/
def Validity.bits : Validity → BitVec 2
  | .none => 0b00
  | .valid => 0b01
  | .invalid => 0b10

/-- The number of an error code (60 R200). -/
def ErrCode.code : ErrCode → BitVec 4
  | .ok => 0
  | .bounds => 1
  | .illegal => 2
  | .badArg => 3
  | .notSealed => 4
  | .state => 5

/-- A one-bit field. -/
def flag (b : Bool) : BitVec 1 := BitVec.ofBool b

/-- STATUS as a read returns it, from bit 31 down to bit 0 (10 R23). -/
def statusWord (s : State) : Word :=
  0#18 ++ flag s.ovf ++ flag s.werr ++ s.err.code ++ 0#2 ++ s.validity.bits ++ flag s.isSealed ++
    flag s.cached ++ flag s.done ++ flag s.busy

/-- A write of `v` to STATUS: DONE, WERR and OVF clear where `v` has a 1 in their bit, nothing else changes (10 R23). -/
def clearStatus (v : Word) (s : State) : State :=
  { s with
    done := s.done && !v.getLsbD 1
    werr := s.werr && !v.getLsbD 12
    ovf := s.ovf && !v.getLsbD 13 }

/-- CTRL as a read returns it: SRST reads 0 (10 R22). -/
def ctrlWord (s : State) : Word := 0#31 ++ flag s.ie

/-- IRQ, level-sensitive and active high: `STATUS.DONE and CTRL.IE` (60 R205, log 16). -/
def irq (s : State) : Bool := s.done && s.ie

end Sys2Proof.Machine
end

