-- ==== Sys2Proof/Machine/Ops.lean ====
section
/-! DEFINITION. The named operations over memory and registers: the buffer RAM, completion and errors, issue, reset,
and the write locks. -/

namespace Sys2Proof.Machine

/-! ### The buffer RAM (10 R35, 20 R63) -/

/-- The window offset of BUF[0] (10 R35). -/
def bufBase : Nat := 0x1000

/-- The byte listed at an offset, if one is (log 11). -/
def Memory.get? : Memory → Nat → Option Byte
  | [], _ => none
  | (b, v) :: m, a => if b = a then some v else Memory.get? m a

/-- The memory after byte `v` is stored at offset `a`, in canonical form (log 11). -/
def Memory.set : Memory → Nat → Byte → Memory
  | [], a, v => [(a, v)]
  | (b, w) :: m, a, v =>
    if a < b then (a, v) :: (b, w) :: m
    else if a = b then (a, v) :: m
    else (b, w) :: Memory.set m a v

/-- `BUF[k]` (00 R11): the byte written last, or the unspecified byte of the last power-on (70 R222, 93 U1). -/
def bufByte (s : State) (k : Nat) : Byte :=
  (s.mem.get? (bufBase + k)).getD (Config.powerOnByte s.powerOns (bufBase + k))

/-- `BUF[k] <- v` (20 R63). -/
def setBufByte (k : Nat) (v : Byte) (s : State) : State :=
  { s with mem := s.mem.set (bufBase + k) v }

/-- The 32-bit word whose least significant lane is `BUF[k]` (20 R63: little-endian lanes). -/
def bufWord (s : State) (k : Nat) : Word :=
  ((bufByte s (k + 3) ++ bufByte s (k + 2)) ++ bufByte s (k + 1)) ++ bufByte s k

/-- The 32-bit store to BUF (20 R63): lane i, data bits 8i+7 to 8i, goes to `BUF[k+i]`. -/
def setBufWord (k : Nat) (v : Word) (s : State) : State :=
  { s with mem :=
      (((s.mem.set (bufBase + k) (v.extractLsb' 0 8)).set (bufBase + (k + 1)) (v.extractLsb' 8 8)).set
        (bufBase + (k + 2)) (v.extractLsb' 16 8)).set (bufBase + (k + 3)) (v.extractLsb' 24 8) }

/-! ### Completion and errors (60_exceptions.md)

The block has no trap (60 R208): an error is a completion with a nonzero code, and there is no return from it
(60 R209). `raiseError` is the one shared operation every error of every command goes through (log 13). -/

/-- The writes of every completion, all at one instant (60 R203). -/
def complete (code : ErrCode) (cached : Bool) (s : State) : State :=
  { s with busy := false, done := true, err := code, cached := cached, pending := none }

/-- `raise Error(code)`: the command ends with nothing changed but the completion fields (00 R11, 60 R202). -/
def raiseError (code : ErrCode) (s : State) : Result := .next (complete code false s)

/-- The success of a command whose `commit` writes made `s`, visible together with the completion (60 R203, 70 R228). -/
def finish (s : State) : Result := .next (complete .ok false s)

/-- The success of a VERIFY that returned the cached validity (42 R178, 60 R203). -/
def finishCached (s : State) : Result := .next (complete .ok true s)

/-- The commit of the three result registers (10 R29). -/
def setResult (lo hi aux : Word) (s : State) : State :=
  { s with resLo := lo, resHi := hi, resAux := aux }

/-- The commit of a view (10 R27). -/
def setView (base len : Word) (s : State) : State :=
  { s with vbase := base, vlen := len }

/-! ### Issue (70 R227) -/

/-- The engine steps before the completing one of the command issued next: LATENCY less one, from the state's parameter
list; 0 where the list gives none (00 R6, log 2). -/
def nextWait (s : State) : Nat := s.waits.headD 0

/-- A CMD write of `w` while BUSY = 0 (70 R227), with the engine's progress at its start (10 R37). -/
def issue (w : Word) (s : State) : State :=
  { s with pending := some w, busy := true, done := false, progress := nextWait s, waits := s.waits.tail }

/-! ### Reset (70 R220 to R223) -/

/-- Both reset sources, CTRL.SRST and the reset input (70 R220): every register takes its reset value, a running command
is abandoned, and BUF keeps its bytes (70 R221 to R223, log 9). What stands outside the block stays. -/
def resetBlock (s : State) : State :=
  { State.powerOn s.bufBytes s.waits with
    mem := s.mem, powerOns := s.powerOns, agenda := s.agenda, responses := s.responses }

/-- The supply returns: as a reset, and every byte of BUF is drawn anew (70 R222, log 9). -/
def powerCycle (s : State) : State :=
  { State.powerOn s.bufBytes s.waits with
    powerOns := s.powerOns + 1, agenda := s.agenda, responses := s.responses }

/-! ### Write locks (70 R229, 20 R65) -/

/-- A dropped write: WERR is set and nothing else changes (70 R229). -/
def dropWrite (s : State) : State := { s with werr := true }

/-- The write of an operand register or table: dropped while BUSY = 1 (70 R229). -/
def storeIdle (f : State → State) (s : State) : State :=
  if s.busy then dropWrite s else f s

/-- The write of BUF or BUF_LEN: dropped while SEALED = 1 or BUSY = 1 (10 R26, 20 R65). -/
def storeOpen (f : State → State) (s : State) : State :=
  if s.isSealed || s.busy then dropWrite s else f s

end Sys2Proof.Machine
end

