-- ==== Sys2Proof/Machine/Bus.lean ====
section
/-! DEFINITION. The bus: the address map (10_state.md), the legal accesses (20 R61, R62), what a read returns and what a
write does (20 R63 to R66, 70 R227 to R230). -/

namespace Sys2Proof.Machine

/-- Every register and table word of the map (10 R21 to R34). -/
inductive Reg where
  | id | version | param | ctrl | status | cmd | arg0 | arg1 | bufLen | vbase | vlen | segCnt
  | resLo | resHi | resAux
  | offs (k : Fin 64)
  | segStart (k : Fin 16) | segLen (k : Fin 16)
  | algPoly (a : Fin 4) | algInit (a : Fin 4) | algXorout (a : Fin 4) | algCfg (a : Fin 4)
  | tcfg (t : Fin 4)
  | bandRange (t : Fin 4) (b : Fin 8) | bandMult (t : Fin 4) (b : Fin 8)
  | bandOffset (t : Fin 4) (b : Fin 8) | bandFlags (t : Fin 4) (b : Fin 8)
deriving DecidableEq, Repr

/-- The offset of a register (10_state.md, summary map). -/
def Reg.offset : Reg → Nat
  | .id => 0x000
  | .version => 0x004
  | .param => 0x008
  | .ctrl => 0x00C
  | .status => 0x010
  | .cmd => 0x014
  | .arg0 => 0x018
  | .arg1 => 0x01C
  | .bufLen => 0x020
  | .vbase => 0x024
  | .vlen => 0x028
  | .segCnt => 0x02C
  | .resLo => 0x030
  | .resHi => 0x034
  | .resAux => 0x038
  | .offs k => 0x100 + 4 * k
  | .segStart k => 0x200 + 8 * k
  | .segLen k => 0x204 + 8 * k
  | .algPoly a => 0x280 + 16 * a
  | .algInit a => 0x284 + 16 * a
  | .algXorout a => 0x288 + 16 * a
  | .algCfg a => 0x28C + 16 * a
  | .tcfg t => 0x2C0 + 4 * t
  | .bandRange t b => 0x400 + 0x80 * t + 0x10 * b
  | .bandMult t b => 0x404 + 0x80 * t + 0x10 * b
  | .bandOffset t b => 0x408 + 0x80 * t + 0x10 * b
  | .bandFlags t b => 0x40C + 0x80 * t + 0x10 * b

/-- The single registers, by word number below 0x03C (10 R21 to R29). -/
def singleReg : Nat → Option Reg
  | 0 => some .id
  | 1 => some .version
  | 2 => some .param
  | 3 => some .ctrl
  | 4 => some .status
  | 5 => some .cmd
  | 6 => some .arg0
  | 7 => some .arg1
  | 8 => some .bufLen
  | 9 => some .vbase
  | 10 => some .vlen
  | 11 => some .segCnt
  | 12 => some .resLo
  | 13 => some .resHi
  | 14 => some .resAux
  | _ => none

/-- The register at a 4-byte-aligned offset below 0x1000; none where the offset is reserved (10 R39). -/
def locate (a : Nat) : Option Reg :=
  if a < 0x100 then singleReg (a / 4)
  else if h : a < 0x200 then some (.offs ⟨(a - 0x100) / 4, by omega⟩)
  else if h : a < 0x280 then
    let k : Fin 16 := ⟨(a - 0x200) / 8, by omega⟩
    if a % 8 < 4 then some (.segStart k) else some (.segLen k)
  else if h : a < 0x2C0 then
    let k : Fin 4 := ⟨(a - 0x280) / 16, by omega⟩
    match a % 16 / 4 with
    | 0 => some (.algPoly k)
    | 1 => some (.algInit k)
    | 2 => some (.algXorout k)
    | _ => some (.algCfg k)
  else if h : a < 0x2D0 then some (.tcfg ⟨(a - 0x2C0) / 4, by omega⟩)
  else if a < 0x400 then none
  else if h : a < 0x600 then
    let t : Fin 4 := ⟨(a - 0x400) / 0x80, by omega⟩
    let b : Fin 8 := ⟨(a - 0x400) % 0x80 / 0x10, by omega⟩
    match a % 16 / 4 with
    | 0 => some (.bandRange t b)
    | 1 => some (.bandMult t b)
    | 2 => some (.bandOffset t b)
    | _ => some (.bandFlags t b)
  else none

/-- What one access reaches. -/
inductive Target where
  /-- a register, by a 32-bit aligned access -/
  | reg (r : Reg)
  /-- `BUF[k]`, by an 8-bit access -/
  | bufByte (k : Nat)
  /-- `BUF[k]` to `BUF[k+3]`, by a 32-bit aligned access -/
  | bufWord (k : Nat)
  /-- reserved space, by a 32-bit aligned access (10 R39) -/
  | reserved
  /-- any other access (20 R62) -/
  | busError
deriving DecidableEq, Repr

/-- Which target an access of a width at an offset has, with `n` = BUF_BYTES (20 R61, R62, 10 R39). -/
def target (n : Nat) (size : Size) (addr : BitVec 16) : Target :=
  let a := addr.toNat
  match size with
  | .half => .busError
  | .byte => if bufBase ≤ a ∧ a < bufBase + n then .bufByte (a - bufBase) else .busError
  | .word =>
    if a % 4 ≠ 0 then .busError
    else if a < bufBase then
      match locate a with
      | some r => .reg r
      | none => .reserved
    else if a + 4 ≤ bufBase + n then .bufWord (a - bufBase)
    else if a < bufBase + n then .busError
    else .reserved

/-- The constant of the ID register, ASCII "IFDB" (10 R21). -/
def idValue : Word := 0x49464442

/-- The constant of the VERSION register (10 R21). -/
def versionValue : Word := 0x00010000

/-- What a 32-bit read of a register returns; reserved bits read 0 (10 R21 to R34). -/
def readReg (r : Reg) (s : State) : Word :=
  match r with
  | .id => idValue
  | .version => versionValue
  | .param => 0#16 ++ BitVec.ofNat 16 s.bufBytes
  | .ctrl => ctrlWord s
  | .status => statusWord s
  | .cmd => 0
  | .arg0 => s.arg0
  | .arg1 => s.arg1
  | .bufLen => s.bufLen
  | .vbase => s.vbase
  | .vlen => s.vlen
  | .segCnt => 0#27 ++ s.segCount
  | .resLo => s.resLo
  | .resHi => s.resHi
  | .resAux => s.resAux
  | .offs k => s.offs[k]
  | .segStart k => s.seg[k].start
  | .segLen k => s.seg[k].len
  | .algPoly a => s.alg[a].poly
  | .algInit a => s.alg[a].init
  | .algXorout a => s.alg[a].xorout
  | .algCfg a => 0#26 ++ s.alg[a].width
  | .tcfg t => 0#27 ++ s.tcfg[t]
  | .bandRange t b => s.bands[t][b].hi ++ s.bands[t][b].lo
  | .bandMult t b => 0#16 ++ s.bands[t][b].mult
  | .bandOffset t b => 0#16 ++ s.bands[t][b].offset
  | .bandFlags t b => 0#29 ++ s.bands[t][b].unit ++ flag s.bands[t][b].en

/-- `SEG[k]` replaced. -/
def setSeg (k : Fin 16) (g : Segment) (s : State) : State := { s with seg := s.seg.set k g }

/-- `ALG[a]` replaced. -/
def setAlg (a : Fin 4) (g : AlgSlot) (s : State) : State := { s with alg := s.alg.set a g }

/-- `BAND[t][b]` replaced. -/
def setBand (t : Fin 4) (b : Fin 8) (d : Band) (s : State) : State :=
  { s with bands := s.bands.set t (s.bands[t].set b d) }

/-- A write to CTRL (10 R22): a 1 in SRST resets the block, whatever the other bits (70 R220, log 7); else IE is
stored. Accepted while BUSY = 1. -/
def writeCtrl (v : Word) (s : State) : State :=
  if v.getLsbD 1 then resetBlock s else { s with ie := v.getLsbD 0 }

/-- A write to CMD: issue, or dropped with OVF while BUSY = 1 (70 R227, R230). -/
def writeCmd (v : Word) (s : State) : State :=
  if s.busy then { s with ovf := true } else issue v s

/-- What a 32-bit write of `v` to a register does. A read-only register ignores it with no error bit (10 R21, R27, R29);
a stored value is masked to the defined bits (20 R66). -/
def writeReg (r : Reg) (v : Word) (s : State) : State :=
  match r with
  | .id => s
  | .version => s
  | .param => s
  | .ctrl => writeCtrl v s
  | .status => clearStatus v s
  | .cmd => writeCmd v s
  | .arg0 => storeIdle (fun s => { s with arg0 := v }) s
  | .arg1 => storeIdle (fun s => { s with arg1 := v }) s
  | .bufLen => storeOpen (fun s => { s with bufLen := v }) s
  | .vbase => s
  | .vlen => s
  | .segCnt => storeIdle (fun s => { s with segCount := v.extractLsb' 0 5 }) s
  | .resLo => s
  | .resHi => s
  | .resAux => s
  | .offs k => storeIdle (fun s => { s with offs := s.offs.set k v }) s
  | .segStart k => storeIdle (fun s => setSeg k { s.seg[k] with start := v } s) s
  | .segLen k => storeIdle (fun s => setSeg k { s.seg[k] with len := v } s) s
  | .algPoly a => storeIdle (fun s => setAlg a { s.alg[a] with poly := v } s) s
  | .algInit a => storeIdle (fun s => setAlg a { s.alg[a] with init := v } s) s
  | .algXorout a => storeIdle (fun s => setAlg a { s.alg[a] with xorout := v } s) s
  | .algCfg a => storeIdle (fun s => setAlg a { s.alg[a] with width := v.extractLsb' 0 6 } s) s
  | .tcfg t => storeIdle (fun s => { s with tcfg := s.tcfg.set t (v.extractLsb' 0 5) }) s
  | .bandRange t b =>
    storeIdle (fun s =>
      setBand t b { s.bands[t][b] with lo := v.extractLsb' 0 16, hi := v.extractLsb' 16 16 } s) s
  | .bandMult t b =>
    storeIdle (fun s => setBand t b { s.bands[t][b] with mult := v.extractLsb' 0 16 } s) s
  | .bandOffset t b =>
    storeIdle (fun s => setBand t b { s.bands[t][b] with offset := v.extractLsb' 0 16 } s) s
  | .bandFlags t b =>
    storeIdle (fun s =>
      setBand t b { s.bands[t][b] with en := v.getLsbD 0, unit := v.extractLsb' 1 2 } s) s

/-- The data a read returns: 0 from reserved space (10 R39) and on a bus error (20 R62); no read changes the state
(20 R66). -/
def readTarget (t : Target) (s : State) : Word :=
  match t with
  | .reg r => readReg r s
  | .bufByte k => 0#24 ++ bufByte s k
  | .bufWord k => bufWord s k
  | .reserved => 0
  | .busError => 0

/-- What a write does: nothing in reserved space (10 R39) and on a bus error (20 R62). -/
def writeTarget (t : Target) (v : Word) (s : State) : State :=
  match t with
  | .reg r => writeReg r v s
  | .bufByte k => storeOpen (setBufByte k (v.extractLsb' 0 8)) s
  | .bufWord k => storeOpen (setBufWord k v) s
  | .reserved => s
  | .busError => s

/-- The bus answers the host. -/
def respond (data : Word) (t : Target) (s : State) : State :=
  { s with responses := ⟨data, decide (t = .busError)⟩ :: s.responses }

/-- One host access, served whole at one instant (20 R67, R70). A bus error is answered with an error response and data
0, changes nothing in the block and sets no STATUS bit (20 R62, 60 R210, log 5). -/
def serve (a : Access) (s : State) : State :=
  match a with
  | .read size addr =>
    let t := target s.bufBytes size addr
    respond (readTarget t s) t s
  | .write size addr v =>
    let t := target s.bufBytes size addr
    respond 0 t (writeTarget t v s)

end Sys2Proof.Machine
end

