-- ==== Sys2Proof/Syntax.lean ====
section
/-! DEFINITION. The commands of the block: one constructor per row of spec/opcode_table.json (30 R81). -/

namespace Sys2Proof

/-- A decoded command. The argument of the six commands that use it is the selector SEL, an unsigned integer
(30 R82); every other operand stands in a register (30 R88). -/
inductive Instr where
  /-- NOP (40 R101). -/
  | nop
  /-- SEAL: end buffer construction (40 R102). -/
  | sealBuf
  /-- RELEASE: reopen the buffer (40 R103). -/
  | release
  /-- BIT: one bit (40 R104). -/
  | bit
  /-- UINT: the first `n` entries of OFFS, most significant first (40 R105). -/
  | uint (n : Nat)
  /-- FIELD: `w` contiguous bits (40 R106). -/
  | field (w : Nat)
  /-- SLICE: narrow the view (40 R107). -/
  | slice
  /-- UNSLICE: restore the view (40 R108). -/
  | unslice
  /-- TIMER: decode by timer table `t` (41 R141). -/
  | timer (t : Nat)
  /-- LAT: latitude (41 R143). -/
  | lat
  /-- LON: longitude (41 R144). -/
  | lon
  /-- SCALE: scale field `f` (41 R146). -/
  | scale (f : Nat)
  /-- VERIFY: validity by algorithm slot `a` (42 R174). -/
  | verify (a : Nat)
  /-- CRCCALC: CRC by algorithm slot `a` (42 R175). -/
  | crccalc (a : Nat)
deriving DecidableEq, Repr

/-- The SEL field of the command's word: the selector, or 0 where it must be 0 (30 R81). -/
def Instr.sel : Instr → Nat
  | .nop => 0
  | .sealBuf => 0
  | .release => 0
  | .bit => 0
  | .uint n => n
  | .field w => w
  | .slice => 0
  | .unslice => 0
  | .timer t => t
  | .lat => 0
  | .lon => 0
  | .scale f => f
  | .verify a => a
  | .crccalc a => a

end Sys2Proof
end

