-- ==== Sys2Proof/WellFormed.lean ====
section
/-! DEFINITION. Which commands have a command word: the selector is an 8-bit field (30 R80, R82). -/

namespace Sys2Proof

/-- The selector fits its field. A selector above the LEGAL range of 30 R81 is well-formed: such a word decodes, and
its command completes with BADARG (30 R82). -/
abbrev Instr.WellFormed (i : Instr) : Prop := i.sel < 256

end Sys2Proof
end

