-- ==== Sys2Proof/Decode.lean ====
section
/-! DEFINITION. The decoding function of 30 R86, total on all 2^32 words, and the encoder of 30 R80, R81. -/

namespace Sys2Proof

/-- Why a command word is ILLEGAL. The block itself reports only the one code ILLEGAL for all three. -/
inductive DecodeError where
  /-- RSV is not 0 (30 R83). -/
  | reservedNotZero
  /-- OPC is not in the opcode map (30 R85). -/
  | unassignedOpcode
  /-- SEL is not 0 and OPC is marked "must be 0" (30 R84). -/
  | selectorNotZero
deriving DecidableEq, Repr

/-- OPC, bits 7:0 of a command word (30 R80). -/
def opcField (w : Word) : Nat := (w.extractLsb' 0 8).toNat

/-- SEL, bits 15:8 of a command word (30 R80). -/
def selField (w : Word) : Nat := (w.extractLsb' 8 8).toNat

/-- RSV, bits 31:16 of a command word (30 R80). -/
def rsvField (w : Word) : Nat := (w.extractLsb' 16 16).toNat

/-- A command marked "must be 0" in 30 R81 decodes only with SEL = 0 (30 R84). -/
def withoutSel (i : Instr) (sel : Nat) : Except DecodeError Instr :=
  if sel = 0 then .ok i else .error .selectorNotZero

/-- The opcode map of 30 R81. -/
def decodeOpcode (opc sel : Nat) : Except DecodeError Instr :=
  match opc with
  | 0x00 => withoutSel .nop sel
  | 0x01 => withoutSel .sealBuf sel
  | 0x02 => withoutSel .release sel
  | 0x10 => withoutSel .bit sel
  | 0x11 => .ok (.uint sel)
  | 0x12 => .ok (.field sel)
  | 0x13 => withoutSel .slice sel
  | 0x14 => withoutSel .unslice sel
  | 0x20 => .ok (.timer sel)
  | 0x21 => withoutSel .lat sel
  | 0x22 => withoutSel .lon sel
  | 0x23 => .ok (.scale sel)
  | 0x30 => .ok (.verify sel)
  | 0x31 => .ok (.crccalc sel)
  | _ => .error .unassignedOpcode

/-- The decoding function of 30 R86. -/
def decode (w : Word) : Except DecodeError Instr :=
  if rsvField w ≠ 0 then .error .reservedNotZero else decodeOpcode (opcField w) (selField w)

/-- The OPC value of a command (30 R81). -/
def Instr.opcode : Instr → Nat
  | .nop => 0x00
  | .sealBuf => 0x01
  | .release => 0x02
  | .bit => 0x10
  | .uint _ => 0x11
  | .field _ => 0x12
  | .slice => 0x13
  | .unslice => 0x14
  | .timer _ => 0x20
  | .lat => 0x21
  | .lon => 0x22
  | .scale _ => 0x23
  | .verify _ => 0x30
  | .crccalc _ => 0x31

/-- The command word of a well-formed command: RSV = 0, SEL, OPC from high to low (30 R80). -/
def encode (i : Instr) : Word :=
  (0#16 ++ BitVec.ofNat 8 i.sel) ++ BitVec.ofNat 8 i.opcode

/-- The command word that the low `nbits` bits of `w` spell, the bits above them 0. -/
def tableWord (nbits w : Nat) : Word := BitVec.ofNat 32 (w % 2 ^ nbits)

/-- What the decoder reads from an instruction whose bits are `w`, numbered as spec/opcode_table.json numbers them. A
command is one 32-bit word, so its bits are the word's (30 R80). -/
def decodeTableWord (nbits w : Nat) : Option Instr := (decode (tableWord nbits w)).toOption

end Sys2Proof
end

