-- ==== Sys2Proof/Machine/Operands.lean ====
section
/-! DEFINITION. Operand forms: buffer bits and their assembly (00 R8, R11, R12), the protected range (42 R172), and the
conversions between integers and registers (00 R9, R10). -/

namespace Sys2Proof.Machine

/-! ### Integers and registers -/

/-- `trunc_32(n)`, or `v[31:0]` of a result (00 R9, R10). -/
def lo32 (n : Nat) : Word := BitVec.ofNat 32 n

/-- `v[63:32]` of a result (00 R9). -/
def hi32 (n : Nat) : Word := BitVec.ofNat 32 (n / 2 ^ 32)

/-- `trunc_32(x)` of an integer (00 R10). -/
def trunc32 (x : Int) : Word := BitVec.ofInt 32 x

/-- The word of all ones under a negative integer, 0 under any other: the sign extension LAT and LON write to RES_HI
(41 R143, R144). -/
def signWord (x : Int) : Word := if x < 0 then 0xFFFFFFFF else 0

/-! ### Buffer bits -/

/-- `BitAbs(i)`: bit 7 − (i mod 8) of `BUF[i div 8]` (00 R8, R11). -/
def bitAbs (s : State) (i : Nat) : Bool := (bufByte s (i / 8)).getLsbD (7 - i % 8)

/-- `Bit(j)`: the view-relative bit j (00 R11). -/
def viewBit (s : State) (j : Nat) : Bool := bitAbs s (s.vbase.toNat + j)

/-- `Assemble`: the integer of a list of bits, the first named most significant (00 R12). -/
def assemble (bits : List Bool) : Nat := bits.foldl (fun v b => 2 * v + b.toNat) 0

/-- The view-relative bit j lies in a byte that exists (10 R35). -/
abbrev InRam (s : State) (j : Nat) : Prop := s.vbase.toNat + j < 8 * s.bufBytes

/-- The bits at the listed view-relative indices, in listed order; none where one of them lies beyond BUF. -/
def readView (s : State) (js : List Nat) : Option (List Bool) :=
  if ∀ j ∈ js, InRam s j then some (js.map (viewBit s)) else none

/-- The engine's only access to the buffer (20 R76): go on with the bits read, or stop where BUF has no such byte
(log 6). -/
def withBits (s : State) (js : List Nat) (go : List Bool → Result) : Result :=
  match readView s js with
  | some bits => go bits
  | none => .fault .bufferOverrun

/-- The view-relative indices `start, start+1, …` of `width` contiguous bits (40 R106, 42 R173). -/
def fieldIndices (start width : Nat) : List Nat := List.range' start width

/-- The first `n` entries of OFFS as indices (40 R105). -/
def offsIndices (s : State) (n : Nat) : List Nat := (s.offs.toList.take n).map BitVec.toNat

/-! ### The protected range -/

/-- `SEG[0..n−1]` with n = SEGCNT.COUNT, in index order (42 R172). -/
def activeSegments (s : State) : List Segment := s.seg.toList.take s.segCount.toNat

/-- A segment that names a bit beyond the view. The sum has no 32-bit wrap, and LEN = 0 is never out of bounds
(42 R172). -/
abbrev Segment.OutOfView (g : Segment) (s : State) : Prop :=
  0 < g.len.toNat ∧ s.vlen.toNat < g.start.toNat + g.len.toNat

/-- The error that ProtBits raises, if it raises one (42 R172). -/
def protError (s : State) : Option ErrCode :=
  if 16 < s.segCount.toNat then some .badArg
  else if ∃ g ∈ activeSegments s, g.OutOfView s then some .bounds
  else none

/-- The indices of the protected range: the segments' bits concatenated in index order (42 R172). -/
def protIndices (s : State) : List Nat :=
  (activeSegments s).flatMap fun g => fieldIndices g.start.toNat g.len.toNat

end Sys2Proof.Machine
end

