-- ==== Sys2Proof/Machine/Buffer.lean ====
section
/-! DEFINITION. Buffer control and bitfield extraction (40_bitbuffer.md). -/

namespace Sys2Proof.Machine

/-- NOP (40 R101). -/
def execNop (s : State) : Result := finish s

/-- SEAL (40 R102). -/
def execSeal (s : State) : Result :=
  if s.isSealed = true then raiseError .state s
  else if 8 * s.bufBytes < s.bufLen.toNat then raiseError .badArg s
  else finish (setView 0 s.bufLen { s with isSealed := true, validity := .none })

/-- RELEASE (40 R103). -/
def execRelease (s : State) : Result :=
  if s.isSealed = false then raiseError .state s
  else finish (setView 0 0 { s with isSealed := false, validity := .none })

/-- BIT (40 R104). -/
def execBit (s : State) : Result :=
  if s.isSealed = false then raiseError .notSealed s
  else if s.vlen.toNat ≤ s.arg0.toNat then raiseError .bounds s
  else withBits s [s.arg0.toNat] fun bits => finish (setResult (lo32 (assemble bits)) 0 1 s)

/-- The common end of UINT and FIELD: assemble the bits and commit the 64-bit value and their number (40 R105, R106). -/
def extractBits (s : State) (js : List Nat) : Result :=
  withBits s js fun bits =>
    finish (setResult (lo32 (assemble bits)) (hi32 (assemble bits)) (lo32 js.length) s)

/-- UINT (40 R105). -/
def execUint (n : Nat) (s : State) : Result :=
  if s.isSealed = false then raiseError .notSealed s
  else if 64 < n then raiseError .badArg s
  else if ∃ j ∈ offsIndices s n, s.vlen.toNat ≤ j then raiseError .bounds s
  else extractBits s (offsIndices s n)

/-- FIELD (40 R106). The sum has no 32-bit wrap, and width 0 names no bit. -/
def execField (w : Nat) (s : State) : Result :=
  if s.isSealed = false then raiseError .notSealed s
  else if 64 < w then raiseError .badArg s
  else if 0 < w ∧ s.vlen.toNat < s.arg0.toNat + w then raiseError .bounds s
  else extractBits s (fieldIndices s.arg0.toNat w)

/-- SLICE (40 R107). -/
def execSlice (s : State) : Result :=
  if s.isSealed = false then raiseError .notSealed s
  else if s.arg1.toNat < s.arg0.toNat then raiseError .badArg s
  else if s.vlen.toNat < s.arg1.toNat then raiseError .bounds s
  else finish (setView (s.vbase + s.arg0) (s.arg1 - s.arg0) s)

/-- UNSLICE (40 R108). -/
def execUnslice (s : State) : Result :=
  if s.isSealed = false then raiseError .notSealed s
  else finish (setView 0 s.bufLen s)

end Sys2Proof.Machine
end

