-- ==== Sys2Proof/Machine/Codecs.lean ====
section
/-! DEFINITION. The fixed-point field codecs (41_codecs.md). They read ARG0, SEL and their configuration only, in either
sealed state. -/

namespace Sys2Proof.Machine

/-! ### The call-timer band decode (41 R141) -/

/-- What a raw timer value decodes to (41 R141). -/
inductive TimerKind where
  /-- 0: a number from a band -/
  | value
  /-- 1: input 0 -/
  | internal
  /-- 2: the maximum input 2^W − 1 -/
  | infinity
  /-- 3: no enabled band covers the input -/
  | noBand
deriving DecidableEq, Repr

/-- The kind codes of RES_AUX[1:0] (41 R141). -/
def TimerKind.code : TimerKind → BitVec 2
  | .value => 0
  | .internal => 1
  | .infinity => 2
  | .noBand => 3

/-- The outcome of the band decode: kind, number, unit code and band index (41 R141). -/
structure TimerDecode where
  /-- the kind -/
  kind : TimerKind
  /-- the number, 0 for a kind without one -/
  value : Int
  /-- the matching band's UNIT, 0 without one -/
  unit : BitVec 2
  /-- the matching band's index, 0 without one -/
  band : Nat
deriving DecidableEq, Repr

/-- An enabled band whose inclusive range covers the raw value (10 R34, 41 R141). -/
abbrev Band.Covers (b : Band) (raw : Nat) : Prop :=
  b.en = true ∧ b.lo.toNat ≤ raw ∧ raw ≤ b.hi.toNat

/-- `raw * sext_16(MULT) + sext_16(OFFSET)` (41 R141). -/
def Band.scale (b : Band) (raw : Nat) : Int := raw * b.mult.toInt + b.offset.toInt

/-- The search through the bands by ascending index, the first of the list having index `k`; the first match wins
(41 R141). -/
def searchBands (raw : Nat) : List Band → Nat → TimerDecode
  | [], _ => ⟨.noBand, 0, 0, 0⟩
  | b :: rest, k =>
    if b.Covers raw then ⟨.value, b.scale raw, b.unit, k⟩ else searchBands raw rest (k + 1)

/-- The decode of a legal raw value under a table of width `w`: the sentinels first, then the bands (41 R141). -/
def decodeTimer (w : Nat) (bands : List Band) (raw : Nat) : TimerDecode :=
  if raw = 0 then ⟨.internal, 0, 0, 0⟩
  else if raw = 2 ^ w - 1 then ⟨.infinity, 0, 0, 0⟩
  else searchBands raw bands 0

/-- `kind | unit << 2`, RES_AUX of TIMER (41 R141). -/
def TimerDecode.aux (d : TimerDecode) : Word := 0#28 ++ d.unit ++ d.kind.code

/-- TIMER (41 R141). Table t exists for t ≤ 3 only. -/
def execTimer (t : Nat) (s : State) : Result :=
  match s.tcfg[t]?, s.bands[t]? with
  | some width, some bands =>
    if width.toNat = 0 ∨ 16 < width.toNat then raiseError .badArg s
    else if 2 ^ width.toNat ≤ s.arg0.toNat then raiseError .badArg s
    else
      let d := decodeTimer width.toNat bands.toList s.arg0.toNat
      finish (setResult (trunc32 d.value) (lo32 d.band) d.aux s)
  | _, _ => raiseError .badArg s

/-- The source's four vectors of the emergency timer: the raw value, its kind, number and unit code
(95 V-L1-1 to V-L1-4). -/
def emergencyVectors : List (Nat × TimerKind × Int × BitVec 2) :=
  [(0, .internal, 0, 0), (511, .infinity, 0, 0), (5, .value, 5, 0), (41, .value, 10, 1)]

/-- The check of an emergency table, which is timer table 0 (10 R33), that a host is to load: it must meet the source's
four vectors (41 R142). The block itself checks no table (70 R225). -/
abbrev MeetsEmergencyVectors (s : State) : Prop :=
  ∀ v ∈ emergencyVectors,
    let d := decodeTimer s.tcfg[0].toNat s.bands[0].toList v.1
    (d.kind, d.value, d.unit) = v.2

/-! ### Coordinates (41 R143 to R145) -/

/-- The signed latitude of a raw word: bit 31 is the hemisphere bit, bits 30:0 the magnitude (41 R143). -/
def latitude (r : Word) : Int :=
  if r.getLsbD 31 then -((r.extractLsb' 0 31).toNat : Int) else ((r.extractLsb' 0 31).toNat : Int)

/-- LAT (41 R143): sign-magnitude. -/
def execLat (s : State) : Result :=
  finish (setResult (trunc32 (latitude s.arg0)) (signWord (latitude s.arg0))
    (0#31 ++ s.arg0.extractLsb' 31 1) s)

/-- LON (41 R144): two's complement, not to be merged with LAT (41 R145). -/
def execLon (s : State) : Result :=
  finish (setResult s.arg0 (signWord s.arg0.toInt) 0 s)

/-! ### Per-field multipliers (41 R146) -/

/-- One row of the scale table (41 R146). -/
structure ScaleRow where
  /-- NUM -/
  num : Nat
  /-- DEN -/
  den : Nat
  /-- the UNIT code -/
  unit : Nat
deriving DecidableEq, Repr

/-- The constant scale table: heading, altitude, speed; no other row exists (41 R146, R147). -/
def scaleRow (f : Nat) : Option ScaleRow :=
  match f with
  | 0 => some ⟨2, 1, 0⟩
  | 1 => some ⟨1, 100, 1⟩
  | 2 => some ⟨1, 100, 2⟩
  | _ => none

/-- SCALE (41 R146). -/
def execScale (f : Nat) (s : State) : Result :=
  match scaleRow f with
  | none => raiseError .badArg s
  | some row =>
    finish (setResult (lo32 (s.arg0.toNat * row.num)) (hi32 (s.arg0.toNat * row.num))
      (lo32 (row.den ||| row.unit <<< 16)) s)

/-! ### The real values a host derives from the results (41 R148, R140, 00 R14) -/

/-- `RES_HI:RES_LO` as a two's-complement number, as LAT and LON leave it (41 R148). -/
def signedResult (s : State) : Int := (s.resHi ++ s.resLo : BitVec 64).toInt

/-- `RES_HI:RES_LO` as an unsigned number, as SCALE leaves it (41 R148). -/
def unsignedResult (s : State) : Nat := (s.resHi ++ s.resLo : BitVec 64).toNat

/-- The number TIMER left, and its unit code; no number for a kind other than VALUE (41 R148). -/
def timerNumber (s : State) : Option (Int × Nat) :=
  if s.resAux.toNat % 4 = 0 then some (s.resLo.toInt, s.resAux.toNat / 4 % 4) else none

/-- The latitude in degrees that LAT left, exact (41 R143, R148). -/
def latitudeDegrees (s : State) : ℚ := signedResult s * 180 / 2 ^ 32

/-- The longitude in degrees that LON left, exact (41 R144, R148). -/
def longitudeDegrees (s : State) : ℚ := signedResult s * 360 / 2 ^ 32

/-- The value that SCALE left, exact, in the unit of code RES_AUX[19:16] (41 R146, R148). -/
def scaledValue (s : State) : ℚ := unsignedResult s / ((s.resAux.toNat % 2 ^ 16 : Nat) : ℚ)

end Sys2Proof.Machine
end

