-- ==== Sys2Proof/Machine/Integrity.lean ====
section
/-! DEFINITION. The integrity verifier: the CRC engine, VERIFY and CRCCALC (42_integrity.md). -/

namespace Sys2Proof.Machine

/-! ### The CRC engine (42 R170) -/

/-- `M = 2^W − 1` (42 R170). -/
def crcMask (w : Nat) : Nat := 2 ^ w - 1

/-- One step of the engine of width `w` and masked polynomial `p` (42 R170). -/
def crcStep (w p reg : Nat) (b : Bool) : Nat :=
  let shifted := (reg <<< 1) &&& crcMask w
  if (reg.testBit (w - 1)) != b then shifted ^^^ p else shifted

/-- `Crc` of a slot over a bit sequence (42 R170). Parity is the case W = 1, POLY = 1 (42 R171). -/
def crc (a : AlgSlot) (bits : List Bool) : Nat :=
  let w := a.width.toNat
  bits.foldl (crcStep w (a.poly.toNat &&& crcMask w)) (a.init.toNat &&& crcMask w)
    ^^^ (a.xorout.toNat &&& crcMask w)

/-- A slot whose width is out of the legal range 1..32; width 0 is "not configured" (10 R32). -/
abbrev AlgSlot.BadWidth (a : AlgSlot) : Prop := a.width.toNat = 0 ∨ 32 < a.width.toNat

/-! ### The commands -/

/-- The outcome of comparing the computed with the received check value (42 R174, R176). -/
def verdict (computed received : Nat) : Validity := if computed = received then .valid else .invalid

/-- VERIFY (42 R174): sealed state, then the cache (R178), then slot, width, segments (R172), check field (R173). -/
def execVerify (a : Nat) (s : State) : Result :=
  if s.isSealed = false then raiseError .notSealed s
  else if s.validity ≠ .none then finishCached s
  else match s.alg[a]? with
    | none => raiseError .badArg s
    | some slot =>
      if slot.BadWidth then raiseError .badArg s
      else match protError s with
        | some e => raiseError e s
        | none =>
          if s.vlen.toNat < s.arg0.toNat + slot.width.toNat then raiseError .bounds s
          else
            withBits s (protIndices s) fun bits =>
            withBits s (fieldIndices s.arg0.toNat slot.width.toNat) fun check =>
              finish (setResult (lo32 (crc slot bits)) (lo32 (assemble check)) (lo32 bits.length)
                { s with validity := verdict (crc slot bits) (assemble check) })

/-- CRCCALC (42 R175): a CRC over the protected range, validity untouched. -/
def execCrccalc (a : Nat) (s : State) : Result :=
  if s.isSealed = false then raiseError .notSealed s
  else match s.alg[a]? with
    | none => raiseError .badArg s
    | some slot =>
      if slot.BadWidth then raiseError .badArg s
      else match protError s with
        | some e => raiseError e s
        | none =>
          withBits s (protIndices s) fun bits =>
            finish (setResult (lo32 (crc slot bits)) 0 (lo32 bits.length) s)

end Sys2Proof.Machine
end

