-- ==== Sys2Proof/Machine/Dispatch.lean ====
section
/-! DEFINITION. The meaning of every command: its completing step (70 R228). One arm per constructor. -/

namespace Sys2Proof.Machine

def exec (i : Instr) (s : State) : Host.Outcome State Fault Refusal :=
  match i with
  | .nop => Sys2Proof.Machine.execNop s
  | .sealBuf => Sys2Proof.Machine.execSeal s
  | .release => Sys2Proof.Machine.execRelease s
  | .bit => Sys2Proof.Machine.execBit s
  | .uint n => Sys2Proof.Machine.execUint n s
  | .field w => Sys2Proof.Machine.execField w s
  | .slice => Sys2Proof.Machine.execSlice s
  | .unslice => Sys2Proof.Machine.execUnslice s
  | .timer t => Sys2Proof.Machine.execTimer t s
  | .lat => Sys2Proof.Machine.execLat s
  | .lon => Sys2Proof.Machine.execLon s
  | .scale f => Sys2Proof.Machine.execScale f s
  | .verify a => Sys2Proof.Machine.execVerify a s
  | .crccalc a => Sys2Proof.Machine.execCrccalc a s

end Sys2Proof.Machine
end

