-- ==== Sys2Proof/Machine/Engine.lean ====
section
/-! DEFINITION. The engine: its internal steps and its completing step (70 R226 to R228, R231). -/

namespace Sys2Proof.Machine

/-- The completing step: decode PENDING (30 R86) and run the command; a word that fails decoding completes with
ILLEGAL and no other effect (30 R83 to R85). -/
def runWord (w : Word) (s : State) : Result :=
  match decode w with
  | .ok i => exec i s
  | .error _ => raiseError .illegal s

/-- One engine step. IDLE: nothing happens. RUNNING: one internal step, which the host cannot observe, or the completing
step (70 R226, R228). -/
def engineStep (s : State) : Result :=
  match s.pending, s.progress with
  | none, _ => .next s
  | some _, n + 1 => .next { s with progress := n }
  | some w, 0 => runWord w s

end Sys2Proof.Machine
end

