-- ==== Sys2Proof/Machine/Step.lean ====
section
/-! DEFINITION. One step of the machine: the next turn of the agenda, or the engine's (20 R70, 70 R231). -/

namespace Sys2Proof.Machine

/-- The turn that comes next is served whole. With no turn left the engine takes its step: it is never kept waiting for
ever (70 R231, log 4). -/
def step (s : State) : Host.Outcome State Fault Refusal :=
  match s.agenda with
  | [] => engineStep s
  | .engine :: rest => engineStep { s with agenda := rest }
  | .host a :: rest => .next (serve a { s with agenda := rest })
  | .resetInput :: rest => .next (resetBlock { s with agenda := rest })
  | .powerUp :: rest => .next (powerCycle { s with agenda := rest })

/-- `s` with the command word of these bits in PENDING, issued (70 R227) and at its completing engine step, and with the
engine's turn next: the very next step decodes and runs it (log 8). -/
def State.withFetchWord (s : State) (nbits w : Nat) : State :=
  { s with pending := some (tableWord nbits w), busy := true, done := false, progress := 0, agenda := [] }

end Sys2Proof.Machine
end

