-- ==== Sys2Proof/Machine/Script.lean ====
section
/-! DEFINITION. The host-script statements (30 R89) and the exact expansions of the pseudo-instructions (30 R90): what a
host program asks of the bus. Labels and branches are the host's control flow; the block never sees them. -/

namespace Sys2Proof.Machine

/-- A value operand: a number, or `$<reg>`, the value last read from that register (30 R89). -/
inductive ScriptValue where
  /-- a number -/
  | value (v : Word)
  /-- `$<reg>` -/
  | last (r : Reg)
deriving DecidableEq, Repr

/-- One statement of a host script (30 R89). -/
inductive Stmt where
  /-- `wr <reg>, <value>` -/
  | wr (r : Reg) (v : ScriptValue)
  /-- `wr <offset>, <value>` -/
  | wrAt (offset : BitVec 16) (v : ScriptValue)
  /-- `wrb <offset>, <byte>` -/
  | wrb (offset : BitVec 16) (b : Byte)
  /-- `rd <reg>` -/
  | rd (r : Reg)
  /-- `cmd <mnemonic> [<sel>]` -/
  | cmd (i : Instr)
  /-- `<label>:` -/
  | label (name : String)
  /-- `bnz <reg>.<field>, <label>`, the field by its bits hi to lo -/
  | bnz (r : Reg) (hi lo : Nat) (target : String)
  /-- `bz <reg>.<field>, <label>` -/
  | bz (r : Reg) (hi lo : Nat) (target : String)
  /-- `beq <reg>, <value>, <label>` -/
  | beq (r : Reg) (v : Word) (target : String)
  /-- `bne <reg>, <value>, <label>` -/
  | bne (r : Reg) (v : Word) (target : String)
deriving DecidableEq, Repr

/-- The values a script has read, the newest of each register first. -/
abbrev ReadLog := List (Reg × Word)

/-- The last value read of a register; 0 where the script has read none. DESIGN CHOICE (log 18). -/
def ReadLog.get (log : ReadLog) (r : Reg) : Word := ((log.find? fun e => e.1 = r).map Prod.snd).getD 0

/-- The word a value operand stands for (30 R89). -/
def ScriptValue.eval (log : ReadLog) : ScriptValue → Word
  | .value v => v
  | .last r => log.get r

/-- The bus access of a statement; none for labels and branches (30 R89). -/
def Stmt.access (log : ReadLog) : Stmt → Option Access
  | .wr r v => some (.write .word (BitVec.ofNat 16 r.offset) (v.eval log))
  | .wrAt offset v => some (.write .word offset (v.eval log))
  | .wrb offset b => some (.write .byte offset (b.setWidth 32))
  | .rd r => some (.read .word (BitVec.ofNat 16 r.offset))
  | .cmd i => some (.write .word (BitVec.ofNat 16 Reg.cmd.offset) (encode i))
  | .label _ => none
  | .bnz _ _ _ _ => none
  | .bz _ _ _ _ => none
  | .beq _ _ _ => none
  | .bne _ _ _ => none

/-- A field of a word, bits hi to lo. -/
def scriptField (v : Word) (hi lo : Nat) : Nat := v.toNat / 2 ^ lo % 2 ^ (hi + 1 - lo)

/-- Where a statement branches to, if it does (30 R89). -/
def Stmt.branch (log : ReadLog) : Stmt → Option String
  | .bnz r hi lo l => if scriptField (log.get r) hi lo ≠ 0 then some l else none
  | .bz r hi lo l => if scriptField (log.get r) hi lo = 0 then some l else none
  | .beq r v l => if log.get r = v then some l else none
  | .bne r v l => if log.get r ≠ v then some l else none
  | .wr _ _ => none
  | .wrAt _ _ => none
  | .wrb _ _ => none
  | .rd _ => none
  | .cmd _ => none
  | .label _ => none

/-! ### Pseudo-instructions (30 R90) -/

/-- `wait` -/
def scriptWait : List Stmt := [.label "1", .rd .status, .bnz .status 0 0 "1b"]

/-- `ack` -/
def scriptAck : List Stmt := [.wr .status (.value 0x2)]

/-- The byte writes of `load`, from `BUF[k]` on. -/
def scriptBytes : List Byte → Nat → List Stmt
  | [], _ => []
  | b :: bs, k => .wrb (BitVec.ofNat 16 (bufBase + k)) b :: scriptBytes bs (k + 1)

/-- `load b0, b1, …` -/
def scriptLoad (bytes : List Byte) : List Stmt :=
  scriptBytes bytes 0 ++ [.wr .bufLen (.value (BitVec.ofNat 32 (8 * bytes.length)))]

/-- `getbit i` -/
def scriptGetbit (i : ScriptValue) : List Stmt := [.wr .arg0 i, .cmd .bit] ++ scriptWait

/-- `extract s, w` -/
def scriptExtract (s : ScriptValue) (w : Nat) : List Stmt := [.wr .arg0 s, .cmd (.field w)] ++ scriptWait

/-- The writes of OFFS[0], OFFS[1], …; OFFS has 64 entries. -/
def scriptOffsets (js : List ScriptValue) : List Stmt :=
  ((List.finRange 64).zip js).map fun e => .wr (.offs e.1) e.2

/-- `fieldspec j0, …` -/
def scriptFieldspec (js : List ScriptValue) : List Stmt :=
  scriptOffsets js ++ [.cmd (.uint js.length)] ++ scriptWait

/-- `slice s, e` -/
def scriptSlice (s e : ScriptValue) : List Stmt := [.wr .arg0 s, .wr .arg1 e, .cmd .slice] ++ scriptWait

/-- `segs (s0,l0), …`; SEG has 16 entries. -/
def scriptSegs (segments : List (ScriptValue × ScriptValue)) : List Stmt :=
  ((List.finRange 16).zip segments).flatMap (fun e => [.wr (.segStart e.1) e.2.1, .wr (.segLen e.1) e.2.2]) ++
    [.wr .segCnt (.value (BitVec.ofNat 32 segments.length))]

/-- `check a, c` -/
def scriptCheck (a : Nat) (c : ScriptValue) : List Stmt := [.wr .arg0 c, .cmd (.verify a)] ++ scriptWait

/-- `decode <mn> [sel], raw`, for TIMER, LAT, LON and SCALE -/
def scriptDecode (i : Instr) (raw : ScriptValue) : List Stmt := [.wr .arg0 raw, .cmd i] ++ scriptWait

/-- The accesses of a script's statements in order, with no branch taken and nothing read before. -/
def scriptAccesses (script : List Stmt) : List Access := script.filterMap (Stmt.access [])

end Sys2Proof.Machine
end

