-- ==== Sys2Proof/Safety.lean ====
section
/-! DEFINITION. What every state of a run keeps, and what a safe step is: the terms the statements use. -/

namespace Sys2Proof.Safety

open Sys2Proof.Machine

/-- BUF_BYTES is legal (00 R6). -/
abbrev LegalSize (s : State) : Prop :=
  Config.minBufBytes ≤ s.bufBytes ∧ s.bufBytes ≤ Config.maxBufBytes

/-- The buffer RAM is in canonical form and lists no byte that does not exist (10 R35, log 11). -/
abbrev RamOk (s : State) : Prop :=
  s.mem.wf ∧ ∀ c ∈ s.mem, bufBase ≤ c.1 ∧ c.1 < bufBase + s.bufBytes

/-- The view invariant of 10 R27, and VALIDITY = NONE while not sealed (10 R38). -/
abbrev ViewOk (s : State) : Prop :=
  (s.isSealed = true →
    s.vbase.toNat + s.vlen.toNat ≤ s.bufLen.toNat ∧ s.bufLen.toNat ≤ 8 * s.bufBytes) ∧
  (s.isSealed = false → s.vbase = 0 ∧ s.vlen = 0 ∧ s.validity = .none)

/-- The engine is IDLE or RUNNING (70 R226); DONE is 0 while it runs, since issue clears DONE and only completion sets
it (10 R23); an idle engine has no step left to take. -/
abbrev EngineOk (s : State) : Prop :=
  s.busy = s.pending.isSome ∧ (s.busy = true → s.done = false) ∧ (s.busy = false → s.progress = 0)

/-- CACHED is 1 only after a VERIFY that returned a validity already set, without error (10 R23, 42 R178). -/
abbrev CachedOk (s : State) : Prop :=
  s.cached = true → s.err = .ok ∧ s.validity ≠ .none

/-- The invariant of the block. -/
structure Inv (s : State) : Prop where
  /-- BUF_BYTES is legal -/
  size : LegalSize s
  /-- BUF is canonical and inside the RAM -/
  ram : RamOk s
  /-- the view lies in the buffer -/
  view : ViewOk s
  /-- the engine is IDLE or RUNNING -/
  engine : EngineOk s
  /-- CACHED is backed by a validity -/
  cached : CachedOk s

/-- An access that resets the block: a 32-bit write to CTRL with 1 in SRST (70 R220). -/
def resets : Access → Bool
  | .read _ _ => false
  | .write .byte _ _ => false
  | .write .half _ _ => false
  | .write .word addr v => decide (addr.toNat = Reg.ctrl.offset) && v.getLsbD 1

/-- A turn that resets nothing (70 R220). -/
def quietTurn : Turn → Bool
  | .engine => true
  | .host a => !resets a
  | .resetInput => false
  | .powerUp => false

/-! ### The spec's formulas on integers, to hold the meanings against -/

/-- `Bit(j)` as the integer formula of 00 R11. -/
def bitNumber (s : State) (j : Nat) : Nat :=
  (bufByte s ((s.vbase.toNat + j) / 8)).toNat / 2 ^ (7 - (s.vbase.toNat + j) % 8) % 2

/-- `Assemble` as the sum of 00 R12. -/
def assembled (s : State) (js : List Nat) : Nat :=
  ∑ k ∈ Finset.range js.length, bitNumber s (js.getD k 0) * 2 ^ (js.length - 1 - k)

/-- The indices `start, …, start + width − 1`. -/
def span (start width : Nat) : List Nat := (List.range width).map (start + ·)

/-- `SEG[k]`. -/
def segmentAt (s : State) (k : Nat) : Segment := s.seg.toList.getD k ⟨0, 0⟩

/-- The indices of the protected range, segment by segment (42 R172). -/
def protectedSpan (s : State) : List Nat :=
  (List.range s.segCount.toNat).flatMap fun k =>
    span (segmentAt s k).start.toNat (segmentAt s k).len.toNat

/-- The bits at the listed view-relative indices. -/
def bitsAt (s : State) (js : List Nat) : List Bool := js.map fun j => bitNumber s j == 1

/-- Some segment in use names a bit beyond the view (42 R172). -/
abbrev SegmentBeyondView (s : State) : Prop :=
  ∃ k < s.segCount.toNat, 0 < (segmentAt s k).len.toNat ∧
    s.vlen.toNat < (segmentAt s k).start.toNat + (segmentAt s k).len.toNat

/-- The operand registers and tables, whose writes are dropped while BUSY = 1 (70 R229). -/
def operandReg : Reg → Bool
  | .id | .version | .param | .ctrl | .status | .cmd | .vbase | .vlen | .resLo | .resHi | .resAux => false
  | .arg0 | .arg1 | .bufLen | .segCnt | .offs _ | .segStart _ | .segLen _ => true
  | .algPoly _ | .algInit _ | .algXorout _ | .algCfg _ | .tcfg _ => true
  | .bandRange _ _ | .bandMult _ _ | .bandOffset _ _ | .bandFlags _ _ => true

/-- The read-only registers (10 R21, R27, R29). -/
def readOnlyReg : Reg → Bool
  | .id | .version | .param | .vbase | .vlen | .resLo | .resHi | .resAux => true
  | .ctrl | .status | .cmd | .arg0 | .arg1 | .bufLen | .segCnt | .offs _ | .segStart _ | .segLen _ => false
  | .algPoly _ | .algInit _ | .algXorout _ | .algCfg _ | .tcfg _ => false
  | .bandRange _ _ | .bandMult _ _ | .bandOffset _ _ | .bandFlags _ _ => false

/-- The defined bits of an operand register (10 R25 to R34). -/
def definedBits : Reg → Word
  | .segCnt => 0x1F
  | .algCfg _ => 0x3F
  | .tcfg _ => 0x1F
  | .bandMult _ _ => 0xFFFF
  | .bandOffset _ _ => 0xFFFF
  | .bandFlags _ _ => 0x7
  | .id | .version | .param | .ctrl | .status | .cmd | .vbase | .vlen | .resLo | .resHi | .resAux => 0
  | .arg0 | .arg1 | .bufLen | .offs _ | .segStart _ | .segLen _ => 0xFFFFFFFF
  | .algPoly _ | .algInit _ | .algXorout _ | .bandRange _ _ => 0xFFFFFFFF

/-- The block as reset leaves it: every register at its reset value, no command in flight, IRQ deasserted (70 R221). -/
abbrev AtReset (s : State) : Prop :=
  (∀ r, readReg r s = (match r with
    | .id => 0x49464442
    | .version => 0x00010000
    | .param => BitVec.ofNat 32 s.bufBytes
    | .ctrl | .status | .cmd | .arg0 | .arg1 | .bufLen | .vbase | .vlen | .segCnt | .resLo | .resHi | .resAux => 0
    | .offs _ | .segStart _ | .segLen _ | .algPoly _ | .algInit _ | .algXorout _ | .algCfg _ | .tcfg _ => 0
    | .bandRange _ _ | .bandMult _ _ | .bandOffset _ _ | .bandFlags _ _ => 0)) ∧
  s.pending = none ∧ s.isSealed = false ∧ s.validity = .none ∧ irq s = false

/-- The offset of a register as a bus address. -/
def regAddr (r : Reg) : BitVec 16 := BitVec.ofNat 16 r.offset

/-- The bus address of `BUF[k]`. -/
def bufAddr (k : Nat) : BitVec 16 := BitVec.ofNat 16 (bufBase + k)

/-- The state after the bus answered one access without error. -/
def answered (data : Word) (s : State) : State := { s with responses := ⟨data, false⟩ :: s.responses }

/-- The state after the bus answered one access with an error: data 0 (20 R62). -/
def refusedByBus (s : State) : State := { s with responses := ⟨0, true⟩ :: s.responses }

end Sys2Proof.Safety
end

