-- ==== Sys2Proof/Certificates/Slice0/Obligations.lean ====
section
/-! DEFINITION. The statements for the provers. Each docstring names the rule of spec/ the statement formalises. -/

section

open Sys2Proof Sys2Proof.Machine Sys2Proof.Safety Polynomial

/-! ### Encoding -/

/-- Every well-formed command is what its own word decodes to (30 R80, R81). -/
def Obligations.DecodeOfEncodeIsIdentity : Prop :=
  ∀ i : Instr, i.WellFormed → decode (encode i) = .ok i

/-- A word that decodes is the encoding of the well-formed command it decodes to: no command has two words (30 R80). -/
def Obligations.DecodedWordIsItsEncoding : Prop :=
  ∀ (w : Word) (i : Instr), decode w = .ok i → i.WellFormed ∧ encode i = w

/-- The decoder refuses exactly the words 30 R86 calls ILLEGAL, and reads OPC and SEL of every other. -/
def Obligations.DecodeRefusesExactlyIllegalWords : Prop :=
  ∀ w : Word,
    ((∃ e, decode w = .error e) ↔
      (w.toNat / 2 ^ 16 ≠ 0 ∨
        w.toNat % 2 ^ 8 ∉ [0x00, 0x01, 0x02, 0x10, 0x11, 0x12, 0x13, 0x14, 0x20, 0x21, 0x22, 0x23, 0x30, 0x31] ∨
        (w.toNat % 2 ^ 8 ∈ [0x00, 0x01, 0x02, 0x10, 0x13, 0x14, 0x21, 0x22] ∧ w.toNat / 2 ^ 8 % 2 ^ 8 ≠ 0))) ∧
    ∀ i, decode w = .ok i → i.opcode = w.toNat % 2 ^ 8 ∧ i.sel = w.toNat / 2 ^ 8 % 2 ^ 8

/-- The encoding examples of 30 R91. -/
def Obligations.ExampleWordsDecode : Prop :=
  decode 0x00000000 = .ok .nop ∧ decode 0x00000001 = .ok .sealBuf ∧ decode 0x00000002 = .ok .release ∧
  decode 0x00000010 = .ok .bit ∧ decode 0x00004011 = .ok (.uint 64) ∧ decode 0x00000812 = .ok (.field 8) ∧
  decode 0x00000013 = .ok .slice ∧ decode 0x00000014 = .ok .unslice ∧ decode 0x00000020 = .ok (.timer 0) ∧
  decode 0x00000021 = .ok .lat ∧ decode 0x00000022 = .ok .lon ∧ decode 0x00000023 = .ok (.scale 0) ∧
  decode 0x00000130 = .ok (.verify 1) ∧ decode 0x00000331 = .ok (.crccalc 3)

/-! ### The engine and its completions -/

/-- When PENDING decodes to a command and the engine is at its completing step, the next step (the engine's by the
agenda, or with the agenda empty) is exec of that command; the agenda's turn is used up (70 R228). -/
def Obligations.StepRunsTheDecodedCommand : Prop :=
  ∀ (s : State) (w : Word) (i : Instr) (rest : List Turn),
    s.pending = some w → s.progress = 0 → decode w = .ok i →
      (s.agenda = [] → step s = exec i s) ∧
      (s.agenda = .engine :: rest → step s = exec i { s with agenda := rest })

/-- A word with RSV ≠ 0, a nonzero SEL under an opcode that must have SEL = 0, or an unassigned OPC completes with
ILLEGAL and no other effect (30 R83, R84, R85), by the engine's turn of the agenda or with the agenda empty. -/
def Obligations.IllegalWordCompletesAsIllegal : Prop :=
  ∀ (s : State) (w : Word) (rest : List Turn),
    s.pending = some w → s.progress = 0 →
    (w.toNat / 2 ^ 16 ≠ 0 ∨
      (w.toNat % 2 ^ 8 ∈ [0x00, 0x01, 0x02, 0x10, 0x13, 0x14, 0x21, 0x22] ∧ w.toNat / 2 ^ 8 % 2 ^ 8 ≠ 0) ∨
      (0x03 ≤ w.toNat % 2 ^ 8 ∧ w.toNat % 2 ^ 8 ≤ 0x0F) ∨ (0x15 ≤ w.toNat % 2 ^ 8 ∧ w.toNat % 2 ^ 8 ≤ 0x1F) ∨
      (0x24 ≤ w.toNat % 2 ^ 8 ∧ w.toNat % 2 ^ 8 ≤ 0x2F) ∨ 0x32 ≤ w.toNat % 2 ^ 8) →
    (s.agenda = [] → step s = .next { s with
      busy := false, done := true, err := .illegal, cached := false, pending := none }) ∧
    (s.agenda = .engine :: rest → step s = .next { s with
      busy := false, done := true, err := .illegal, cached := false, pending := none, agenda := rest })

/-- A command word, legal or not, that completes with an error changes nothing but the completion fields (60 R202). -/
def Obligations.FailedCommandsArePrecise : Prop :=
  ∀ (w : Word) (s t : State), runWord w s = .next t → t.err ≠ .ok →
    t = { s with busy := false, done := true, err := t.err, cached := false, pending := none }

/-- Every completion, of any word, clears BUSY and PENDING, sets DONE, and sets CACHED exactly when the command was a
VERIFY that found a validity already set; WERR, OVF and CTRL stay (60 R203). -/
def Obligations.CompletionSetsItsFields : Prop :=
  ∀ (w : Word) (s t : State), runWord w s = .next t →
    t.busy = false ∧ t.done = true ∧ t.pending = none ∧
    (t.cached = true ↔ (∃ a, decode w = .ok (.verify a)) ∧ s.isSealed = true ∧ s.validity ≠ .none) ∧
    t.werr = s.werr ∧ t.ovf = s.ovf ∧ t.ie = s.ie

/-- The frame of all fourteen commands: beyond the completion fields a command writes at most SEALED, VALIDITY, the view
and the results, and of these only what its rule names; every byte of BUF is as before (40 R101 to R108, 42 R174,
10 R27, R29, R38, 20 R76). -/
def Obligations.CommandsWriteOnlyWhatTheyName : Prop :=
  ∀ (i : Instr) (s t : State), exec i s = .next t →
    t = { s with
      busy := t.busy, done := t.done, err := t.err, cached := t.cached, pending := t.pending,
      isSealed := t.isSealed, validity := t.validity, vbase := t.vbase, vlen := t.vlen,
      resLo := t.resLo, resHi := t.resHi, resAux := t.resAux } ∧
    (∀ k, bufByte t k = bufByte s k) ∧
    (i ≠ .sealBuf → i ≠ .release → t.isSealed = s.isSealed) ∧
    (i ≠ .sealBuf → i ≠ .release → i ≠ .slice → i ≠ .unslice → t.vbase = s.vbase ∧ t.vlen = s.vlen) ∧
    (i ≠ .sealBuf → i ≠ .release → (∀ a, i ≠ .verify a) → t.validity = s.validity) ∧
    (i = .nop ∨ i = .sealBuf ∨ i = .release ∨ i = .slice ∨ i = .unslice ∨ t.cached = true →
      t.resLo = s.resLo ∧ t.resHi = s.resHi ∧ t.resAux = s.resAux)

/-- An engine step before the completing one, by its turn of the agenda or with the agenda empty, changes nothing the
host can observe: only the engine's own progress (70 R228). -/
def Obligations.InternalEngineStepIsHidden : Prop :=
  ∀ (s : State) (w : Word) (n : Nat) (rest : List Turn), s.pending = some w → s.progress = n + 1 →
    (s.agenda = [] → step s = .next { s with progress := n }) ∧
    (s.agenda = .engine :: rest → step s = .next { s with progress := n, agenda := rest })

/-! ### Buffer control and extraction (40_bitbuffer.md) -/

/-- NOP completes with OK and changes nothing else; its opcode with any other bit set is ILLEGAL (40 R101). -/
def Obligations.NopOnlyCompletes : Prop :=
  encode .nop = 0x00000000 ∧
  ∀ s : State,
    exec .nop s = .next { s with busy := false, done := true, err := .ok, cached := false, pending := none } ∧
    ∀ w : Word, w.toNat % 2 ^ 8 = 0x00 → w.toNat / 2 ^ 8 ≠ 0 → runWord w s = .next { s with
      busy := false, done := true, err := .illegal, cached := false, pending := none }

/-- SEAL (40 R102). -/
def Obligations.SealOutcomes : Prop :=
  encode .sealBuf = 0x00000001 ∧
  ∀ s : State,
    (s.isSealed = true → exec .sealBuf s = .next (complete .state false s)) ∧
    (s.isSealed = false → 8 * s.bufBytes < s.bufLen.toNat →
      exec .sealBuf s = .next (complete .badArg false s)) ∧
    (s.isSealed = false → s.bufLen.toNat ≤ 8 * s.bufBytes →
      exec .sealBuf s = .next (complete .ok false { s with
        isSealed := true, vbase := 0, vlen := s.bufLen, validity := .none }))

/-- RELEASE (40 R103). -/
def Obligations.ReleaseOutcomes : Prop :=
  encode .release = 0x00000002 ∧
  ∀ s : State,
    (s.isSealed = false → exec .release s = .next (complete .state false s)) ∧
    (s.isSealed = true →
      exec .release s = .next (complete .ok false { s with
        isSealed := false, vbase := 0, vlen := 0, validity := .none }))

/-- BIT (40 R104), the bit by the integer formula of 00 R11. -/
def Obligations.BitOutcomes : Prop :=
  encode .bit = 0x00000010 ∧
  ∀ s : State, ViewOk s →
    (s.isSealed = false → exec .bit s = .next (complete .notSealed false s)) ∧
    (s.isSealed = true → s.vlen.toNat ≤ s.arg0.toNat →
      exec .bit s = .next (complete .bounds false s)) ∧
    (s.isSealed = true → s.arg0.toNat < s.vlen.toNat →
      exec .bit s = .next (complete .ok false { s with
        resLo := BitVec.ofNat 32 (bitNumber s s.arg0.toNat), resHi := 0, resAux := 1 }))

/-- UINT (40 R105), the value by the sum of 00 R12. -/
def Obligations.UintOutcomes : Prop :=
  (∀ n < 256, encode (.uint n) = BitVec.ofNat 32 (0x11 + n * 2 ^ 8)) ∧
  ∀ (n : Nat) (s : State), ViewOk s →
    let js := (List.range n).map fun k => (s.offs.toList.getD k 0).toNat
    (s.isSealed = false → exec (.uint n) s = .next (complete .notSealed false s)) ∧
    (s.isSealed = true → 64 < n → exec (.uint n) s = .next (complete .badArg false s)) ∧
    (s.isSealed = true → n ≤ 64 → (∃ k < n, s.vlen.toNat ≤ (s.offs.toList.getD k 0).toNat) →
      exec (.uint n) s = .next (complete .bounds false s)) ∧
    (s.isSealed = true → n ≤ 64 → (∀ k < n, (s.offs.toList.getD k 0).toNat < s.vlen.toNat) →
      assembled s js < 2 ^ n ∧
      exec (.uint n) s = .next (complete .ok false { s with
        resLo := BitVec.ofNat 32 (assembled s js), resHi := BitVec.ofNat 32 (assembled s js / 2 ^ 32),
        resAux := BitVec.ofNat 32 n }))

/-- FIELD (40 R106), the value by the sum of 00 R12. -/
def Obligations.FieldOutcomes : Prop :=
  (∀ w < 256, encode (.field w) = BitVec.ofNat 32 (0x12 + w * 2 ^ 8)) ∧
  ∀ (w : Nat) (s : State), ViewOk s →
    let js := span s.arg0.toNat w
    (s.isSealed = false → exec (.field w) s = .next (complete .notSealed false s)) ∧
    (s.isSealed = true → 64 < w → exec (.field w) s = .next (complete .badArg false s)) ∧
    (s.isSealed = true → 0 < w → w ≤ 64 → s.vlen.toNat < s.arg0.toNat + w →
      exec (.field w) s = .next (complete .bounds false s)) ∧
    (s.isSealed = true → w ≤ 64 → (w = 0 ∨ s.arg0.toNat + w ≤ s.vlen.toNat) →
      assembled s js < 2 ^ w ∧
      exec (.field w) s = .next (complete .ok false { s with
        resLo := BitVec.ofNat 32 (assembled s js), resHi := BitVec.ofNat 32 (assembled s js / 2 ^ 32),
        resAux := BitVec.ofNat 32 w }))

/-- SLICE (40 R107): the new view's base and length as unbounded integers. -/
def Obligations.SliceOutcomes : Prop :=
  encode .slice = 0x00000013 ∧
  ∀ s : State, ViewOk s →
    (s.isSealed = false → exec .slice s = .next (complete .notSealed false s)) ∧
    (s.isSealed = true → s.arg1.toNat < s.arg0.toNat →
      exec .slice s = .next (complete .badArg false s)) ∧
    (s.isSealed = true → s.arg0.toNat ≤ s.arg1.toNat → s.vlen.toNat < s.arg1.toNat →
      exec .slice s = .next (complete .bounds false s)) ∧
    (s.isSealed = true → s.arg0.toNat ≤ s.arg1.toNat → s.arg1.toNat ≤ s.vlen.toNat →
      ∃ base len : Word,
        base.toNat = s.vbase.toNat + s.arg0.toNat ∧ len.toNat = s.arg1.toNat - s.arg0.toNat ∧
        exec .slice s = .next (complete .ok false { s with vbase := base, vlen := len }))

/-- UNSLICE (40 R108). -/
def Obligations.UnsliceOutcomes : Prop :=
  encode .unslice = 0x00000014 ∧
  ∀ s : State,
    (s.isSealed = false → exec .unslice s = .next (complete .notSealed false s)) ∧
    (s.isSealed = true →
      exec .unslice s = .next (complete .ok false { s with vbase := 0, vlen := s.bufLen }))

/-- FIELD gives what UINT gives over the offsets s, s+1, …, s+w−1 (40 R106). -/
def Obligations.FieldEqualsUintOverConsecutiveOffsets : Prop :=
  ∀ (w : Nat) (s : State),
    (∀ k < min w 64, (s.offs.toList.getD k 0).toNat = s.arg0.toNat + k) →
    exec (.field w) s = exec (.uint w) s

/-- Two slices that succeed give the view of the one slice (s1 + s2, s1 + e2), and every bit of it reads the same
(40 R109). -/
def Obligations.SlicesCompose : Prop :=
  ∀ (s t u : State) (s2 e2 : Word),
    exec .slice s = .next t → t.err = .ok →
    exec .slice { t with arg0 := s2, arg1 := e2 } = .next u → u.err = .ok →
    ∃ v, exec .slice { s with arg0 := s.arg0 + s2, arg1 := s.arg0 + e2 } = .next v ∧
      v.err = .ok ∧ v.vbase = u.vbase ∧ v.vlen = u.vlen ∧ ∀ j, viewBit v j = viewBit u j

/-- BIT, UINT, FIELD, SLICE and UNSLICE do the same under every validity and leave it as it is (40 R111). -/
def Obligations.FieldAccessIgnoresValidity : Prop :=
  ∀ (i : Instr) (s t : State) (v : Validity),
    (i = .bit ∨ (∃ n, i = .uint n) ∨ (∃ w, i = .field w) ∨ i = .slice ∨ i = .unslice) →
    exec i s = .next t →
    t.validity = s.validity ∧ exec i { s with validity := v } = .next { t with validity := v }

/-- Every command that succeeds or fails does so on the bits of the view alone: two buffers that agree on the view
give every command the same outcome (40 R110, 20 R76). -/
def Obligations.OutcomesDependOnTheViewOnly : Prop :=
  ∀ (i : Instr) (s t : State) (m : Memory) (n : Nat),
    (∀ j < s.vlen.toNat, viewBit { s with mem := m, powerOns := n } j = viewBit s j) →
    exec i s = .next t →
    exec i { s with mem := m, powerOns := n } = .next { t with mem := m, powerOns := n }

/-! ### Codecs (41_codecs.md) -/

/-- TIMER (41 R141): the first enabled band by ascending index that covers the raw value decides; its number is exact
in 32-bit two's complement. -/
def Obligations.TimerOutcomes : Prop :=
  (∀ t < 256, encode (.timer t) = BitVec.ofNat 32 (0x20 + t * 2 ^ 8)) ∧
  ∀ (t : Nat) (s : State),
    (3 < t → exec (.timer t) s = .next (complete .badArg false s)) ∧
    (∀ h : t < 4,
      let w := s.tcfg[t].toNat
      let raw := s.arg0.toNat
      let bands := s.bands[t]
      (w = 0 ∨ 16 < w ∨ 2 ^ w ≤ raw → exec (.timer t) s = .next (complete .badArg false s)) ∧
      (1 ≤ w → w ≤ 16 → raw = 0 →
        exec (.timer t) s = .next (complete .ok false { s with resLo := 0, resHi := 0, resAux := 1 })) ∧
      (1 ≤ w → w ≤ 16 → raw = 2 ^ w - 1 →
        exec (.timer t) s = .next (complete .ok false { s with resLo := 0, resHi := 0, resAux := 2 })) ∧
      (1 ≤ w → w ≤ 16 → 0 < raw → raw < 2 ^ w - 1 →
        (∀ b : Fin 8,
          bands[b].en = true → bands[b].lo.toNat ≤ raw → raw ≤ bands[b].hi.toNat →
          (∀ c < b, ¬ (bands[c].en = true ∧ bands[c].lo.toNat ≤ raw ∧ raw ≤ bands[c].hi.toNat)) →
          ∃ lo : Word,
            lo.toInt = raw * bands[b].mult.toInt + bands[b].offset.toInt ∧
            exec (.timer t) s = .next (complete .ok false { s with
              resLo := lo, resHi := BitVec.ofNat 32 b, resAux := BitVec.ofNat 32 (4 * bands[b].unit.toNat) })) ∧
        ((∀ b : Fin 8, ¬ (bands[b].en = true ∧ bands[b].lo.toNat ≤ raw ∧ raw ≤ bands[b].hi.toNat)) →
          exec (.timer t) s = .next (complete .ok false { s with resLo := 0, resHi := 0, resAux := 3 }))))

/-- A configuration of timer table 0 passes the check of 41 R142 exactly when TIMER 0 gives the source's four outcomes
under it: raw 0 INTERNAL, raw 511 INFINITY, raw 5 the number 5 SECS, raw 41 the number 10 MINS (95 V-L1-1 to V-L1-4).
The band that gives the number is the table's own. -/
def Obligations.EmergencyTableGivesSourceOutcomes : Prop :=
  ∀ s : State, MeetsEmergencyVectors s ↔
    exec (.timer 0) { s with arg0 := 0 } =
      .next (complete .ok false { s with arg0 := 0, resLo := 0, resHi := 0, resAux := 1 }) ∧
    exec (.timer 0) { s with arg0 := 511 } =
      .next (complete .ok false { s with arg0 := 511, resLo := 0, resHi := 0, resAux := 2 }) ∧
    (∃ b : Fin 8, exec (.timer 0) { s with arg0 := 5 } =
      .next (complete .ok false { s with arg0 := 5, resLo := 5, resHi := BitVec.ofNat 32 b, resAux := 0 })) ∧
    (∃ b : Fin 8, exec (.timer 0) { s with arg0 := 41 } =
      .next (complete .ok false { s with arg0 := 41, resLo := 10, resHi := BitVec.ofNat 32 b, resAux := 4 }))

/-- LAT (41 R143): RES_HI:RES_LO is the sign-magnitude number, RES_AUX the hemisphere bit. -/
def Obligations.LatOutcomes : Prop :=
  encode .lat = 0x00000021 ∧
  ∀ s : State, ∃ hi lo : Word,
    (hi ++ lo : BitVec 64).toInt =
      (if s.arg0.toNat / 2 ^ 31 = 1 then -((s.arg0.toNat % 2 ^ 31 : Nat) : Int) else s.arg0.toNat) ∧
    exec .lat s = .next (complete .ok false { s with
      resLo := lo, resHi := hi, resAux := BitVec.ofNat 32 (s.arg0.toNat / 2 ^ 31) })

/-- LON (41 R144): RES_LO is the word, RES_HI:RES_LO its two's-complement number. -/
def Obligations.LonOutcomes : Prop :=
  encode .lon = 0x00000022 ∧
  ∀ s : State, ∃ hi : Word,
    (hi ++ s.arg0 : BitVec 64).toInt =
      (if s.arg0.toNat < 2 ^ 31 then (s.arg0.toNat : Int) else (s.arg0.toNat : Int) - 2 ^ 32) ∧
    exec .lon s = .next (complete .ok false { s with resLo := s.arg0, resHi := hi, resAux := 0 })

/-- SCALE (41 R146): RES_HI:RES_LO is the exact product. -/
def Obligations.ScaleOutcomes : Prop :=
  (∀ f < 256, encode (.scale f) = BitVec.ofNat 32 (0x23 + f * 2 ^ 8)) ∧
  ∀ (f : Nat) (s : State),
    (2 < f → exec (.scale f) s = .next (complete .badArg false s)) ∧
    (f ≤ 2 → ∃ hi lo aux : Word,
      (hi ++ lo : BitVec 64).toNat = s.arg0.toNat * (if f = 0 then 2 else 1) ∧
      aux.toNat = (if f = 0 then 1 else 100) + f * 2 ^ 16 ∧
      exec (.scale f) s = .next (complete .ok false { s with resLo := lo, resHi := hi, resAux := aux }))

/-- What the results of TIMER, LAT, LON and SCALE mean, row by row of 41 R148, as exact rationals: no rounding, no
saturation, no wrap of an angle. TIMER's number is that of the first enabled band that covers the raw value, and the
other kinds have none; a latitude is below 90 degrees in magnitude, a longitude at least -180 and below 180 (41 R140,
R141, R143, R144, R146). -/
def Obligations.CodecResultsAreExactRationals : Prop :=
  ∀ (s t : State),
    (∀ (k : Nat) (h : k < 4), exec (.timer k) s = .next t → t.err = .ok →
      let raw := s.arg0.toNat
      let bands := s.bands[k]
      (raw = 0 ∨ raw = 2 ^ s.tcfg[k].toNat - 1 → timerNumber t = none) ∧
      ((∀ b : Fin 8, ¬ (bands[b].en = true ∧ bands[b].lo.toNat ≤ raw ∧ raw ≤ bands[b].hi.toNat)) →
        timerNumber t = none) ∧
      (0 < raw → raw < 2 ^ s.tcfg[k].toNat - 1 → ∀ b : Fin 8,
        bands[b].en = true → bands[b].lo.toNat ≤ raw → raw ≤ bands[b].hi.toNat →
        (∀ c < b, ¬ (bands[c].en = true ∧ bands[c].lo.toNat ≤ raw ∧ raw ≤ bands[c].hi.toNat)) →
        timerNumber t = some (raw * bands[b].mult.toInt + bands[b].offset.toInt, bands[b].unit.toNat))) ∧
    (exec .lat s = .next t →
      latitudeDegrees t = (if s.arg0.getLsbD 31 then -1 else 1) * ((s.arg0.toNat % 2 ^ 31 : Nat) : ℚ) * 180 / 2 ^ 32 ∧
      -90 < latitudeDegrees t ∧ latitudeDegrees t < 90 ∧ (t.resAux = 1 ↔ s.arg0.getLsbD 31 = true)) ∧
    (exec .lon s = .next t →
      longitudeDegrees t = (s.arg0.toInt : ℚ) * 360 / 2 ^ 32 ∧
      -180 ≤ longitudeDegrees t ∧ longitudeDegrees t < 180) ∧
    (exec (.scale 0) s = .next t → scaledValue t = 2 * (s.arg0.toNat : ℚ) ∧ t.resAux.toNat / 2 ^ 16 = 0) ∧
    (exec (.scale 1) s = .next t → scaledValue t = (s.arg0.toNat : ℚ) / 100 ∧ t.resAux.toNat / 2 ^ 16 = 1) ∧
    (exec (.scale 2) s = .next t → scaledValue t = (s.arg0.toNat : ℚ) / 100 ∧ t.resAux.toNat / 2 ^ 16 = 2)

/-! ### Integrity (42_integrity.md) -/

/-- VERIFY (42 R174): every outcome, in the order of its checks. -/
def Obligations.VerifyOutcomes : Prop :=
  (∀ a < 256, encode (.verify a) = BitVec.ofNat 32 (0x30 + a * 2 ^ 8)) ∧
  ∀ (a : Nat) (s : State), ViewOk s →
    (s.isSealed = false → exec (.verify a) s = .next (complete .notSealed false s)) ∧
    (s.isSealed = true → s.validity ≠ .none → exec (.verify a) s = .next (complete .ok true s)) ∧
    (s.isSealed = true → s.validity = .none → 3 < a →
      exec (.verify a) s = .next (complete .badArg false s)) ∧
    (∀ h : a < 4,
      let slot := s.alg[a]
      let w := slot.width.toNat
      let c := s.arg0.toNat
      let computed := crc slot (bitsAt s (protectedSpan s))
      let received := assembled s (span c w)
      s.isSealed = true → s.validity = .none →
      (w = 0 ∨ 32 < w → exec (.verify a) s = .next (complete .badArg false s)) ∧
      (1 ≤ w → w ≤ 32 → 16 < s.segCount.toNat → exec (.verify a) s = .next (complete .badArg false s)) ∧
      (1 ≤ w → w ≤ 32 → s.segCount.toNat ≤ 16 → SegmentBeyondView s →
        exec (.verify a) s = .next (complete .bounds false s)) ∧
      (1 ≤ w → w ≤ 32 → s.segCount.toNat ≤ 16 → ¬ SegmentBeyondView s → s.vlen.toNat < c + w →
        exec (.verify a) s = .next (complete .bounds false s)) ∧
      (1 ≤ w → w ≤ 32 → s.segCount.toNat ≤ 16 → ¬ SegmentBeyondView s → c + w ≤ s.vlen.toNat →
        exec (.verify a) s = .next (complete .ok false { s with
          validity := if computed = received then .valid else .invalid,
          resLo := BitVec.ofNat 32 computed, resHi := BitVec.ofNat 32 received,
          resAux := BitVec.ofNat 32 (protectedSpan s).length })))

/-- CRCCALC (42 R175): every outcome, in the order of its checks. -/
def Obligations.CrccalcOutcomes : Prop :=
  (∀ a < 256, encode (.crccalc a) = BitVec.ofNat 32 (0x31 + a * 2 ^ 8)) ∧
  ∀ (a : Nat) (s : State), ViewOk s →
    (s.isSealed = false → exec (.crccalc a) s = .next (complete .notSealed false s)) ∧
    (s.isSealed = true → 3 < a → exec (.crccalc a) s = .next (complete .badArg false s)) ∧
    (∀ h : a < 4,
      let slot := s.alg[a]
      let w := slot.width.toNat
      s.isSealed = true →
      (w = 0 ∨ 32 < w → exec (.crccalc a) s = .next (complete .badArg false s)) ∧
      (1 ≤ w → w ≤ 32 → 16 < s.segCount.toNat → exec (.crccalc a) s = .next (complete .badArg false s)) ∧
      (1 ≤ w → w ≤ 32 → s.segCount.toNat ≤ 16 → SegmentBeyondView s →
        exec (.crccalc a) s = .next (complete .bounds false s)) ∧
      (1 ≤ w → w ≤ 32 → s.segCount.toNat ≤ 16 → ¬ SegmentBeyondView s →
        exec (.crccalc a) s = .next (complete .ok false { s with
          resLo := BitVec.ofNat 32 (crc slot (bitsAt s (protectedSpan s))), resHi := 0,
          resAux := BitVec.ofNat 32 (protectedSpan s).length })))

/-- A VERIFY after the validity is set returns it from the cache, whatever its selector (42 R178). -/
def Obligations.SecondVerifyIsCached : Prop :=
  ∀ (a : Nat) (s : State), s.isSealed = true → s.validity ≠ .none →
    exec (.verify a) s = .next { s with
      busy := false, done := true, err := .ok, cached := true, pending := none }

/-- The CRC engine is polynomial division over GF(2) by x^W + P(x), most significant bit first: the result's polynomial
is the remainder of INIT·x^L + data·x^W, plus XOROUT (42 R170). The polynomial of a number n has the coefficient of x^i
equal to bit i of n. -/
def Obligations.CrcIsPolynomialRemainder : Prop :=
  ∀ (slot : AlgSlot) (bits : List Bool), 1 ≤ slot.width.toNat → slot.width.toNat ≤ 32 →
    let w := slot.width.toNat
    let poly := fun n : Nat => ∑ i ∈ Finset.range w, if n.testBit i then (X ^ i : (ZMod 2)[X]) else 0
    let data := (bits.foldl (fun q b => q * X + if b then 1 else 0) 0 : (ZMod 2)[X])
    crc slot bits < 2 ^ w ∧
    poly (crc slot bits) =
      (poly slot.init.toNat * X ^ bits.length + data * X ^ w) %ₘ (X ^ w + poly slot.poly.toNat) +
        poly slot.xorout.toNat

/-- With W = 1 and POLY = 1 the CRC is the exclusive or of all bits with INIT and XOROUT: it is 1 exactly when the
number of ones among them is odd (42 R171). -/
def Obligations.WidthOneCrcIsParity : Prop :=
  ∀ (slot : AlgSlot) (bits : List Bool), slot.width = 1 → slot.poly.getLsbD 0 = true →
    crc slot bits = (slot.init.toNat + bits.count true + slot.xorout.toNat) % 2

/-- Single-bit sensitivity (42 R180): with POLY odd, no two segments overlapping and the check field apart from them, a
VERIFY that found VALID finds INVALID after any one protected or check bit is changed. -/
def Obligations.OneChangedBitMakesVerifyInvalid : Prop :=
  ∀ (a : Nat) (h : a < 4) (s t : State) (m : Memory) (n j : Nat),
    (s.alg[a]).poly.getLsbD 0 = true →
    (protectedSpan s ++ span s.arg0.toNat (s.alg[a]).width.toNat).Nodup →
    j ∈ protectedSpan s ++ span s.arg0.toNat (s.alg[a]).width.toNat →
    (∀ k, viewBit { s with mem := m, powerOns := n } k = if k = j then !viewBit s j else viewBit s k) →
    s.validity = .none → exec (.verify a) s = .next t → t.validity = .valid →
    ∃ u, exec (.verify a) { s with mem := m, powerOns := n } = .next u ∧ u.validity = .invalid ∧ u.err = .ok

/-- Bits in no segment and outside the check field have no influence on VERIFY's outcome, RES_LO or RES_HI
(42 R179). -/
def Obligations.ExcludedBitsHaveNoInfluence : Prop :=
  ∀ (a : Nat) (h : a < 4) (s t : State) (m : Memory) (n : Nat),
    (∀ j ∈ protectedSpan s ++ span s.arg0.toNat (s.alg[a]).width.toNat,
      viewBit { s with mem := m, powerOns := n } j = viewBit s j) →
    exec (.verify a) s = .next t →
    ∃ u, exec (.verify a) { s with mem := m, powerOns := n } = .next u ∧
      u.validity = t.validity ∧ u.err = t.err ∧ u.resLo = t.resLo ∧ u.resHi = t.resHi

/-- The validity changes only so: a VERIFY that completes without error sets it while it is NONE; once it is set,
RELEASE and reset alone change it, and make it NONE (42 R177). -/
def Obligations.ValidityIsSetAtMostOncePerPhase : Prop :=
  ∀ s t : State, Inv s → step s = .next t → t.validity ≠ s.validity →
    let completes := fun i : Instr => ∃ w, s.pending = some w ∧ decode w = .ok i ∧ s.progress = 0 ∧
      (s.agenda = [] ∨ ∃ rest, s.agenda = .engine :: rest)
    (s.validity = .none → (∃ a, completes (.verify a)) ∧ t.err = .ok ∧ t.cached = false) ∧
    (s.validity ≠ .none → t.validity = .none ∧ t.isSealed = false ∧
      (completes .release ∨ (∃ rest, s.agenda = .resetInput :: rest) ∨
        (∃ rest, s.agenda = .powerUp :: rest) ∨
        (∃ a rest, s.agenda = .host a :: rest ∧ resets a = true)))

/-! ### Invariants and progress -/

/-- Every step from a state that meets the invariant leads to one that meets it: the view invariant of 10 R27, the
validity of 10 R38, IDLE or RUNNING of 70 R226, and the canonical form of BUF. -/
def Obligations.StepKeepsInvariant : Prop :=
  ∀ s t : State, Inv s → step s = .next t → Inv t

/-- The state after power-on meets the invariant for every legal BUF_BYTES and every LATENCY, and so does the reset
state. The 256 bytes of State.reset are the model's choice (log 1). -/
def Obligations.PowerOnMeetsInvariant : Prop :=
  (∀ (n : Nat) (waits : List Nat), 12 ≤ n → n ≤ 8192 → Inv (State.powerOn n waits)) ∧ Inv State.reset

/-- From a state that meets the invariant every step has a next state: the engine never reads a byte that does not
exist, and no command word stops it (20 R76, 40 R110, 30 R86). -/
def Obligations.InvariantStatesNeverStop : Prop :=
  ∀ s : State, Inv s → ∃ t, step s = .next t

/-- While the buffer stays sealed, no step changes a byte of BUF or BUF_LEN (10 R37, 20 R77). -/
def Obligations.SealedBufferNeverChanges : Prop :=
  ∀ s t : State, s.isSealed = true → step s = .next t → t.isSealed = true →
    (∀ k, bufByte t k = bufByte s k) ∧ t.bufLen = s.bufLen

/-- Every issued command completes within a bounded number of steps unless a reset intervenes (70 R231). The bound is
the model's: the turns still on the agenda and the engine steps left (log 2, log 4). -/
def Obligations.EveryIssuedCommandCompletes : Prop :=
  ∀ s : State, Inv s → s.busy = true → (∀ u ∈ s.agenda, quietTurn u = true) →
    ∃ n t, n ≤ s.agenda.length + s.progress + 1 ∧ Host.Core.run Sys2Proof.core n s = .next t ∧
      t.busy = false ∧ t.done = true ∧ t.pending = none

/-- What a command does is not changed by the host's accesses between its issue and its completion, whatever they are
and however many, but for a reset: they change IE, WERR and OVF and are answered, and nothing else (70 R228, 20 R71). -/
def Obligations.OutcomeIndependentOfAccessesWhileBusy : Prop :=
  ∀ (i : Instr) (s t : State) (accesses : List Access),
    s.busy = true → (∀ a ∈ accesses, resets a = false) → exec i s = .next t →
    let f := accesses.foldl (fun u a => serve a u) s
    exec i f = .next { t with ie := f.ie, werr := f.werr, ovf := f.ovf, responses := f.responses }

/-! ### Reset (70_reset_and_hazards.md) -/

/-- After power-on, and after every reset in any state, every register reads 0 but for ID, VERSION and PARAM, no command
is in flight, the buffer is open, and IRQ is deasserted (70 R221). A CTRL write resets here with 1 in SRST and 0 in IE;
with 1 in both the outcome is log 7's, stated by ResetSourcesHaveTheSameEffect. -/
def Obligations.ResetRegisterValues : Prop :=
  (∀ (n : Nat) (waits : List Nat), n ≤ Config.maxBufBytes → AtReset (State.powerOn n waits)) ∧
  ∀ (s : State) (u : Turn) (rest : List Turn), s.bufBytes ≤ Config.maxBufBytes → quietTurn u = false →
    (∀ addr v, u = .host (.write .word addr v) → v.getLsbD 0 = false) →
    ∃ t, step { s with agenda := u :: rest } = .next t ∧ t.bufBytes = s.bufBytes ∧ AtReset t

/-- The reset input and every write of 1 to CTRL.SRST have the same effect, in every state, BUSY included (70 R220); the
write is also answered on the bus. Two clauses are the model's choices: the effect is the same when the write has 1 in IE
as well, so that IE reads 0 after it (log 7); and the reset input keeps every byte of BUF, as the soft reset does
(log 9). -/
def Obligations.ResetSourcesHaveTheSameEffect : Prop :=
  ∀ (s : State) (rest : List Turn), ∃ t,
    step { s with agenda := .resetInput :: rest } = .next t ∧
    (∀ v : Word, v.getLsbD 1 = true →
      step { s with agenda := .host (.write .word (regAddr .ctrl) v) :: rest } =
        .next { t with responses := ⟨0, false⟩ :: t.responses }) ∧
    readReg .ctrl t = 0 ∧ ∀ k, bufByte t k = bufByte s k

/-- A reset abandons a running command: none of its writes is made, the engine has nothing left to do, DONE is 0 and
stays so (70 R223). The soft reset, a CTRL write with 1 in SRST (and 0 in IE), keeps every byte of BUF (70 R222); that
the reset input keeps them is log 9's, stated by ResetSourcesHaveTheSameEffect. -/
def Obligations.ResetAbandonsTheCommandAndKeepsBuf : Prop :=
  ∀ (s : State) (u : Turn) (rest : List Turn) (v : Word), v.getLsbD 1 = true → v.getLsbD 0 = false →
    u = .resetInput ∨ u = .host (.write .word (regAddr .ctrl) v) →
    ∃ t, step { s with agenda := u :: rest } = .next t ∧
      t.pending = none ∧ t.busy = false ∧ t.done = false ∧
      (∀ r, readReg r t = readReg r (State.powerOn s.bufBytes [])) ∧
      step { t with agenda := [] } = .next { t with agenda := [] } ∧
      step { t with agenda := .engine :: rest } = .next t ∧
      (u ≠ .resetInput → ∀ k, bufByte t k = bufByte s k)

/-! ### Issue and hazards -/

/-- A CMD write while BUSY = 0 issues the command (70 R227); the engine's progress and the LATENCY of later commands
are the model's own fields and left open here. -/
def Obligations.CmdWriteIssuesTheCommand : Prop :=
  ∀ (s : State) (w : Word), s.busy = false → ∃ steps waits,
    serve (.write .word (regAddr .cmd) w) s = answered 0 { s with
      pending := some w, busy := true, done := false, progress := steps, waits := waits }

/-- A CMD write while BUSY = 1 is dropped and sets OVF (70 R230). -/
def Obligations.CmdWriteWhileBusyIsDropped : Prop :=
  ∀ (s : State) (w : Word), s.busy = true →
    serve (.write .word (regAddr .cmd) w) s = answered 0 { s with ovf := true }

/-- While BUSY = 1 a write to an operand register, a table or BUF is dropped and sets WERR. At any time, BUSY or not, a
write to CTRL stores IE, or resets with 1 in SRST (stated with 0 in IE: with 1 in both the outcome is log 7's, stated by
ResetSourcesHaveTheSameEffect), a write to STATUS clears its W1C bits, and a write to a read-only or reserved location
is ignored; nothing else changes (70 R229, 10 R21, R22, R23, R27, R29). -/
def Obligations.OperandWritesWhileBusyAreDropped : Prop :=
  ∀ (s : State) (v : Word), LegalSize s →
    (s.busy = true →
      (∀ r, operandReg r = true →
        serve (.write .word (regAddr r) v) s = answered 0 { s with werr := true }) ∧
      (∀ k, k < s.bufBytes →
        serve (.write .byte (bufAddr k) v) s = answered 0 { s with werr := true }) ∧
      (∀ k, k % 4 = 0 → k + 4 ≤ s.bufBytes →
        serve (.write .word (bufAddr k) v) s = answered 0 { s with werr := true })) ∧
    (v.getLsbD 1 = false →
      serve (.write .word (regAddr .ctrl) v) s = answered 0 { s with ie := v.getLsbD 0 }) ∧
    (v.getLsbD 1 = true → v.getLsbD 0 = false →
      serve (.write .word (regAddr .ctrl) v) s = answered 0 (resetBlock s)) ∧
    serve (.write .word (regAddr .status) v) s = answered 0 { s with
      done := s.done && !v.getLsbD 1, werr := s.werr && !v.getLsbD 12, ovf := s.ovf && !v.getLsbD 13 } ∧
    (∀ r, readOnlyReg r = true → serve (.write .word (regAddr r) v) s = answered 0 s) ∧
    (∀ addr : BitVec 16, addr.toNat % 4 = 0 →
      (0x03C ≤ addr.toNat ∧ addr.toNat < 0x100) ∨ (0x2D0 ≤ addr.toNat ∧ addr.toNat < 0x400) ∨
        (0x600 ≤ addr.toNat ∧ addr.toNat < 0x1000) ∨ 0x1000 + s.bufBytes ≤ addr.toNat →
      serve (.write .word addr v) s = answered 0 s)

/-- The pseudo-instruction `load` in an idle, open block: BUF holds the bytes, BUF_LEN their number of bits, and every
other byte and register is as before (30 R90). -/
def Obligations.LoadFillsTheBuffer : Prop :=
  ∀ (s : State) (bytes : List Byte), LegalSize s → s.busy = false → s.isSealed = false → bytes.length ≤ s.bufBytes →
    let t := (scriptAccesses (scriptLoad bytes)).foldl (fun u a => serve a u) s
    t = { s with mem := t.mem, bufLen := BitVec.ofNat 32 (8 * bytes.length), responses := t.responses } ∧
    ∀ k, bufByte t k = bytes.getD k (bufByte s k)

/-! ### The bus (20_memory.md, 10_state.md) -/

/-- A write to BUF is dropped with WERR while sealed or busy; otherwise an 8-bit write stores data bits 7:0 and a 32-bit
write stores lane i in BUF[4m+i], and every other byte is as before (20 R65, R63). -/
def Obligations.BufWritesStoreLanesOrAreDropped : Prop :=
  ∀ (s : State) (v : Word), LegalSize s →
    (∀ k, k < s.bufBytes → s.isSealed = true ∨ s.busy = true →
      serve (.write .byte (bufAddr k) v) s = answered 0 { s with werr := true }) ∧
    (∀ k, k % 4 = 0 → k + 4 ≤ s.bufBytes → s.isSealed = true ∨ s.busy = true →
      serve (.write .word (bufAddr k) v) s = answered 0 { s with werr := true }) ∧
    (∀ k, k < s.bufBytes → s.isSealed = false → s.busy = false →
      let t := serve (.write .byte (bufAddr k) v) s
      t = answered 0 { s with mem := t.mem } ∧
      ∀ j, bufByte t j = if j = k then v.extractLsb' 0 8 else bufByte s j) ∧
    (∀ k, k % 4 = 0 → k + 4 ≤ s.bufBytes → s.isSealed = false → s.busy = false →
      let t := serve (.write .word (bufAddr k) v) s
      t = answered 0 { s with mem := t.mem } ∧
      ∀ j, bufByte t j = if k ≤ j ∧ j < k + 4 then v.extractLsb' (8 * (j - k)) 8 else bufByte s j)

/-- A 32-bit read of BUF returns four bytes in little-endian lanes and an 8-bit read one byte (20 R63). -/
def Obligations.BufReadsReturnLanes : Prop :=
  ∀ s : State, LegalSize s →
    (∀ k, k < s.bufBytes →
      serve (.read .byte (bufAddr k)) s = answered (BitVec.ofNat 32 (bufByte s k).toNat) s) ∧
    (∀ k, k % 4 = 0 → k + 4 ≤ s.bufBytes →
      serve (.read .word (bufAddr k)) s = answered (BitVec.ofNat 32
        ((bufByte s k).toNat + (bufByte s (k + 1)).toNat * 2 ^ 8 + (bufByte s (k + 2)).toNat * 2 ^ 16 +
          (bufByte s (k + 3)).toNat * 2 ^ 24)) s)

/-- No read changes anything but the bus's answer (20 R66). -/
def Obligations.ReadsHaveNoSideEffect : Prop :=
  ∀ (s : State) (size : Size) (addr : BitVec 16), ∃ r : Response,
    serve (.read size addr) s = { s with responses := r :: s.responses }

/-- Exactly the accesses of 20 R62 are bus errors: they are answered with an error and data 0 and change nothing. Every
other read is answered without error, and so is every other write. -/
def Obligations.BusErrorsHaveNoEffect : Prop :=
  ∀ (s : State) (size : Size) (addr : BitVec 16) (v : Word), LegalSize s →
    ((size = .half ∨ (size = .word ∧ addr.toNat % 4 ≠ 0) ∨
        (size = .byte ∧ (addr.toNat < 0x1000 ∨ 0x1000 + s.bufBytes ≤ addr.toNat)) ∨
        (size = .word ∧ addr.toNat < 0x1000 + s.bufBytes ∧ 0x1000 + s.bufBytes < addr.toNat + 4)) →
      serve (.read size addr) s = refusedByBus s ∧ serve (.write size addr v) s = refusedByBus s) ∧
    (¬ (size = .half ∨ (size = .word ∧ addr.toNat % 4 ≠ 0) ∨
        (size = .byte ∧ (addr.toNat < 0x1000 ∨ 0x1000 + s.bufBytes ≤ addr.toNat)) ∨
        (size = .word ∧ addr.toNat < 0x1000 + s.bufBytes ∧ 0x1000 + s.bufBytes < addr.toNat + 4)) →
      (∃ data, serve (.read size addr) s = answered data s) ∧
      (∃ t, serve (.write size addr v) s = answered 0 t ∧ t.responses = s.responses))

/-- The register map of 10_state.md, section 6, in numbers, and that it has no aliases: each register and table word
stands at its own offset, and an offset reaches at most one (10 R21 to R34, R36). -/
def Obligations.RegisterMapHasNoAliases : Prop :=
  (locate 0x000 = some .id ∧ locate 0x004 = some .version ∧ locate 0x008 = some .param ∧
    locate 0x00C = some .ctrl ∧ locate 0x010 = some .status ∧ locate 0x014 = some .cmd ∧
    locate 0x018 = some .arg0 ∧ locate 0x01C = some .arg1 ∧ locate 0x020 = some .bufLen ∧
    locate 0x024 = some .vbase ∧ locate 0x028 = some .vlen ∧ locate 0x02C = some .segCnt ∧
    locate 0x030 = some .resLo ∧ locate 0x034 = some .resHi ∧ locate 0x038 = some .resAux) ∧
  (∀ k : Fin 64, locate (0x100 + 4 * k) = some (.offs k)) ∧
  (∀ k : Fin 16, locate (0x200 + 8 * k) = some (.segStart k) ∧ locate (0x204 + 8 * k) = some (.segLen k)) ∧
  (∀ a : Fin 4,
    locate (0x280 + 16 * a) = some (.algPoly a) ∧ locate (0x284 + 16 * a) = some (.algInit a) ∧
    locate (0x288 + 16 * a) = some (.algXorout a) ∧ locate (0x28C + 16 * a) = some (.algCfg a) ∧
    locate (0x2C0 + 4 * a) = some (.tcfg a)) ∧
  (∀ (t : Fin 4) (b : Fin 8),
    locate (0x400 + 0x80 * t + 0x10 * b) = some (.bandRange t b) ∧
    locate (0x404 + 0x80 * t + 0x10 * b) = some (.bandMult t b) ∧
    locate (0x408 + 0x80 * t + 0x10 * b) = some (.bandOffset t b) ∧
    locate (0x40C + 0x80 * t + 0x10 * b) = some (.bandFlags t b)) ∧
  (∀ r : Reg, locate r.offset = some r) ∧
  (∀ (a : Nat) (r : Reg), a % 4 = 0 → locate a = some r → r.offset = a) ∧
  (∀ r r' : Reg, r.offset = r'.offset → r = r')

/-- A 32-bit read of a register returns it and changes nothing (20 R66): what each register and table word of 10 R21 to
R34 reads as, its reserved bits 0 (R39). STATUS is StatusIsWriteOneToClear's. -/
def Obligations.RegisterReadsReturnTheRegisters : Prop :=
  ∀ s : State,
    (∀ r, serve (.read .word (regAddr r)) s = answered (readReg r s) s) ∧
    readReg .id s = 0x49464442 ∧ readReg .version s = 0x00010000 ∧
    (LegalSize s → (readReg .param s).toNat = s.bufBytes) ∧
    (readReg .ctrl s).toNat = s.ie.toNat ∧ readReg .cmd s = 0 ∧
    readReg .arg0 s = s.arg0 ∧ readReg .arg1 s = s.arg1 ∧ readReg .bufLen s = s.bufLen ∧
    readReg .vbase s = s.vbase ∧ readReg .vlen s = s.vlen ∧ (readReg .segCnt s).toNat = s.segCount.toNat ∧
    readReg .resLo s = s.resLo ∧ readReg .resHi s = s.resHi ∧ readReg .resAux s = s.resAux ∧
    (∀ k, readReg (.offs k) s = s.offs[k]) ∧
    (∀ k, readReg (.segStart k) s = s.seg[k].start ∧ readReg (.segLen k) s = s.seg[k].len) ∧
    (∀ a, readReg (.algPoly a) s = s.alg[a].poly ∧ readReg (.algInit a) s = s.alg[a].init ∧
      readReg (.algXorout a) s = s.alg[a].xorout ∧ (readReg (.algCfg a) s).toNat = s.alg[a].width.toNat) ∧
    (∀ t, (readReg (.tcfg t) s).toNat = s.tcfg[t].toNat) ∧
    (∀ t b,
      (readReg (.bandRange t b) s).toNat = s.bands[t][b].lo.toNat + s.bands[t][b].hi.toNat * 2 ^ 16 ∧
      (readReg (.bandMult t b) s).toNat = s.bands[t][b].mult.toNat ∧
      (readReg (.bandOffset t b) s).toNat = s.bands[t][b].offset.toNat ∧
      (readReg (.bandFlags t b) s).toNat = s.bands[t][b].en.toNat + s.bands[t][b].unit.toNat * 2)

/-- A write to an operand register of an idle block, sealed or not, stores the value masked to the register's defined
bits, and no other register and no byte of BUF changes (20 R66, 10 R36). BUF_LEN alone is locked while sealed: its write
is then dropped with WERR and nothing else changes (10 R26). -/
def Obligations.OperandWritesStoreDefinedBits : Prop :=
  ∀ (s : State) (v : Word), s.busy = false →
    (∀ r, operandReg r = true → (r = .bufLen → s.isSealed = false) →
      let t := serve (.write .word (regAddr r) v) s
      readReg r t = v &&& definedBits r ∧
      (∀ r', r' ≠ r → readReg r' t = readReg r' s) ∧
      (∀ k, bufByte t k = bufByte s k) ∧ t.pending = s.pending ∧ t.progress = s.progress) ∧
    (s.isSealed = true →
      serve (.write .word (regAddr .bufLen) v) s = answered 0 { s with werr := true })

/-- Reserved locations read 0 and ignore 32-bit aligned writes with no error (10 R39). -/
def Obligations.ReservedSpaceReadsZeroAndIgnoresWrites : Prop :=
  ∀ (s : State) (addr : BitVec 16) (v : Word),
    (0x03C ≤ addr.toNat ∧ addr.toNat < 0x100) ∨ (0x2D0 ≤ addr.toNat ∧ addr.toNat < 0x400) ∨
      (0x600 ≤ addr.toNat ∧ addr.toNat < 0x1000) ∨ 0x1000 + s.bufBytes ≤ addr.toNat →
    (addr.toNat % 4 = 0 →
      serve (.read .word addr) s = answered 0 s ∧ serve (.write .word addr v) s = answered 0 s) ∧
    serve (.read .byte addr) s = refusedByBus s ∧ serve (.write .byte addr v) s = refusedByBus s

/-- STATUS holds BUSY in bit 0, DONE 1, CACHED 2, SEALED 3, VALIDITY 5:4 (NONE 00, VALID 01, INVALID 10), ERR 11:8 (the
numbers of 60 R200), WERR 12 and OVF 13, and 0 elsewhere (10 R23, R38). A write to STATUS clears exactly the bits DONE,
WERR and OVF that are written with 1, BUSY or not. -/
def Obligations.StatusIsWriteOneToClear : Prop :=
  ∀ (s : State) (v : Word),
    (readReg .status s).toNat =
      s.busy.toNat + s.done.toNat * 2 ^ 1 + s.cached.toNat * 2 ^ 2 + s.isSealed.toNat * 2 ^ 3 +
        (match s.validity with
          | .none => 0b00
          | .valid => 0b01
          | .invalid => 0b10) * 2 ^ 4 +
        (match s.err with
          | .ok => 0
          | .bounds => 1
          | .illegal => 2
          | .badArg => 3
          | .notSealed => 4
          | .state => 5) * 2 ^ 8 +
        s.werr.toNat * 2 ^ 12 + s.ovf.toNat * 2 ^ 13 ∧
    readReg .status (serve (.write .word (regAddr .status) v) s) =
      readReg .status s &&& ~~~(v &&& 0x00003002) ∧
    readReg .status s &&& 0xFFFFC0C0 = 0 ∧
    (readReg .status s).extractLsb' 4 2 ≠ 0b11 ∧ (readReg .status s).extractLsb' 8 4 ≤ 5

/-- IRQ is DONE and IE as the host reads them; every completion raises it under IE, whatever the error code; setting IE
while DONE = 1 asserts it at once (60 R205). -/
def Obligations.InterruptIsDoneAndEnabled : Prop :=
  ∀ s : State,
    (irq s = ((readReg .status s).getLsbD 1 && (readReg .ctrl s).getLsbD 0)) ∧
    (∀ (w : Word) (t : State), runWord w s = .next t → irq t = s.ie) ∧
    (s.done = true → irq (serve (.write .word (regAddr .ctrl) 1) s) = true) ∧
    (s.done = true → irq (serve (.write .word (regAddr .ctrl) 0) s) = false)

/-- DONE, and so IRQ, is cleared by writing 1 to STATUS bit 1, by the next issue and by reset. WERR and OVF are cleared
only by writing 1 to their bits or by reset, and do not drive IRQ (60 R206). -/
def Obligations.AcknowledgeAndStickyFlags : Prop :=
  ∀ s : State,
    (∀ v : Word,
      let t := serve (.write .word (regAddr .status) v) s
      (v.getLsbD 1 = true → t.done = false ∧ irq t = false) ∧
      (v.getLsbD 12 = true → t.werr = false) ∧ (v.getLsbD 13 = true → t.ovf = false)) ∧
    (∀ w : Word, s.busy = false →
      let t := serve (.write .word (regAddr .cmd) w) s
      t.done = false ∧ irq t = false) ∧
    (∀ rest t, step { s with agenda := .resetInput :: rest } = .next t →
      t.done = false ∧ irq t = false ∧ t.werr = false ∧ t.ovf = false) ∧
    (∀ a b : Bool, irq { s with werr := a, ovf := b } = irq s) ∧
    (∀ t, step s = .next t → (s.werr = true ∧ t.werr = false) ∨ (s.ovf = true ∧ t.ovf = false) →
      ∃ u rest, s.agenda = u :: rest ∧
        (quietTurn u = false ∨ ∃ v, u = .host (.write .word (regAddr .status) v) ∧
          ((s.werr = true ∧ t.werr = false) → v.getLsbD 12 = true) ∧
          ((s.ovf = true ∧ t.ovf = false) → v.getLsbD 13 = true)))

end
end

