-- ==== Sys2Proof/Laws/State.lean ====
section
/-! SUPPORT. What each named update of the state leaves in each field: one lemma per field per update, so that no proof
unfolds a record update. -/

namespace Sys2Proof.Machine

/-! ### complete -/

@[simp] theorem complete_bufBytes (c : ErrCode) (k : Bool) (s : State) : (complete c k s).bufBytes = s.bufBytes := rfl
@[simp] theorem complete_ie (c : ErrCode) (k : Bool) (s : State) : (complete c k s).ie = s.ie := rfl
@[simp] theorem complete_busy (c : ErrCode) (k : Bool) (s : State) : (complete c k s).busy = false := rfl
@[simp] theorem complete_done (c : ErrCode) (k : Bool) (s : State) : (complete c k s).done = true := rfl
@[simp] theorem complete_cached (c : ErrCode) (k : Bool) (s : State) : (complete c k s).cached = k := rfl
@[simp] theorem complete_isSealed (c : ErrCode) (k : Bool) (s : State) : (complete c k s).isSealed = s.isSealed := rfl
@[simp] theorem complete_validity (c : ErrCode) (k : Bool) (s : State) : (complete c k s).validity = s.validity := rfl
@[simp] theorem complete_err (c : ErrCode) (k : Bool) (s : State) : (complete c k s).err = c := rfl
@[simp] theorem complete_werr (c : ErrCode) (k : Bool) (s : State) : (complete c k s).werr = s.werr := rfl
@[simp] theorem complete_ovf (c : ErrCode) (k : Bool) (s : State) : (complete c k s).ovf = s.ovf := rfl
@[simp] theorem complete_pending (c : ErrCode) (k : Bool) (s : State) : (complete c k s).pending = none := rfl
@[simp] theorem complete_progress (c : ErrCode) (k : Bool) (s : State) : (complete c k s).progress = s.progress := rfl
@[simp] theorem complete_arg0 (c : ErrCode) (k : Bool) (s : State) : (complete c k s).arg0 = s.arg0 := rfl
@[simp] theorem complete_arg1 (c : ErrCode) (k : Bool) (s : State) : (complete c k s).arg1 = s.arg1 := rfl
@[simp] theorem complete_bufLen (c : ErrCode) (k : Bool) (s : State) : (complete c k s).bufLen = s.bufLen := rfl
@[simp] theorem complete_vbase (c : ErrCode) (k : Bool) (s : State) : (complete c k s).vbase = s.vbase := rfl
@[simp] theorem complete_vlen (c : ErrCode) (k : Bool) (s : State) : (complete c k s).vlen = s.vlen := rfl
@[simp] theorem complete_segCount (c : ErrCode) (k : Bool) (s : State) : (complete c k s).segCount = s.segCount := rfl
@[simp] theorem complete_resLo (c : ErrCode) (k : Bool) (s : State) : (complete c k s).resLo = s.resLo := rfl
@[simp] theorem complete_resHi (c : ErrCode) (k : Bool) (s : State) : (complete c k s).resHi = s.resHi := rfl
@[simp] theorem complete_resAux (c : ErrCode) (k : Bool) (s : State) : (complete c k s).resAux = s.resAux := rfl
@[simp] theorem complete_offs (c : ErrCode) (k : Bool) (s : State) : (complete c k s).offs = s.offs := rfl
@[simp] theorem complete_seg (c : ErrCode) (k : Bool) (s : State) : (complete c k s).seg = s.seg := rfl
@[simp] theorem complete_alg (c : ErrCode) (k : Bool) (s : State) : (complete c k s).alg = s.alg := rfl
@[simp] theorem complete_tcfg (c : ErrCode) (k : Bool) (s : State) : (complete c k s).tcfg = s.tcfg := rfl
@[simp] theorem complete_bands (c : ErrCode) (k : Bool) (s : State) : (complete c k s).bands = s.bands := rfl
@[simp] theorem complete_mem (c : ErrCode) (k : Bool) (s : State) : (complete c k s).mem = s.mem := rfl
@[simp] theorem complete_powerOns (c : ErrCode) (k : Bool) (s : State) : (complete c k s).powerOns = s.powerOns := rfl
@[simp] theorem complete_waits (c : ErrCode) (k : Bool) (s : State) : (complete c k s).waits = s.waits := rfl
@[simp] theorem complete_agenda (c : ErrCode) (k : Bool) (s : State) : (complete c k s).agenda = s.agenda := rfl
@[simp] theorem complete_responses (c : ErrCode) (k : Bool) (s : State) : (complete c k s).responses = s.responses := rfl

/-! ### setResult -/

@[simp] theorem setResult_bufBytes (lo hi aux : Word) (s : State) : (setResult lo hi aux s).bufBytes = s.bufBytes := rfl
@[simp] theorem setResult_ie (lo hi aux : Word) (s : State) : (setResult lo hi aux s).ie = s.ie := rfl
@[simp] theorem setResult_busy (lo hi aux : Word) (s : State) : (setResult lo hi aux s).busy = s.busy := rfl
@[simp] theorem setResult_done (lo hi aux : Word) (s : State) : (setResult lo hi aux s).done = s.done := rfl
@[simp] theorem setResult_cached (lo hi aux : Word) (s : State) : (setResult lo hi aux s).cached = s.cached := rfl
@[simp] theorem setResult_isSealed (lo hi aux : Word) (s : State) : (setResult lo hi aux s).isSealed = s.isSealed := rfl
@[simp] theorem setResult_validity (lo hi aux : Word) (s : State) : (setResult lo hi aux s).validity = s.validity := rfl
@[simp] theorem setResult_err (lo hi aux : Word) (s : State) : (setResult lo hi aux s).err = s.err := rfl
@[simp] theorem setResult_werr (lo hi aux : Word) (s : State) : (setResult lo hi aux s).werr = s.werr := rfl
@[simp] theorem setResult_ovf (lo hi aux : Word) (s : State) : (setResult lo hi aux s).ovf = s.ovf := rfl
@[simp] theorem setResult_pending (lo hi aux : Word) (s : State) : (setResult lo hi aux s).pending = s.pending := rfl
@[simp] theorem setResult_progress (lo hi aux : Word) (s : State) : (setResult lo hi aux s).progress = s.progress := rfl
@[simp] theorem setResult_arg0 (lo hi aux : Word) (s : State) : (setResult lo hi aux s).arg0 = s.arg0 := rfl
@[simp] theorem setResult_arg1 (lo hi aux : Word) (s : State) : (setResult lo hi aux s).arg1 = s.arg1 := rfl
@[simp] theorem setResult_bufLen (lo hi aux : Word) (s : State) : (setResult lo hi aux s).bufLen = s.bufLen := rfl
@[simp] theorem setResult_vbase (lo hi aux : Word) (s : State) : (setResult lo hi aux s).vbase = s.vbase := rfl
@[simp] theorem setResult_vlen (lo hi aux : Word) (s : State) : (setResult lo hi aux s).vlen = s.vlen := rfl
@[simp] theorem setResult_segCount (lo hi aux : Word) (s : State) : (setResult lo hi aux s).segCount = s.segCount := rfl
@[simp] theorem setResult_resLo (lo hi aux : Word) (s : State) : (setResult lo hi aux s).resLo = lo := rfl
@[simp] theorem setResult_resHi (lo hi aux : Word) (s : State) : (setResult lo hi aux s).resHi = hi := rfl
@[simp] theorem setResult_resAux (lo hi aux : Word) (s : State) : (setResult lo hi aux s).resAux = aux := rfl
@[simp] theorem setResult_offs (lo hi aux : Word) (s : State) : (setResult lo hi aux s).offs = s.offs := rfl
@[simp] theorem setResult_seg (lo hi aux : Word) (s : State) : (setResult lo hi aux s).seg = s.seg := rfl
@[simp] theorem setResult_alg (lo hi aux : Word) (s : State) : (setResult lo hi aux s).alg = s.alg := rfl
@[simp] theorem setResult_tcfg (lo hi aux : Word) (s : State) : (setResult lo hi aux s).tcfg = s.tcfg := rfl
@[simp] theorem setResult_bands (lo hi aux : Word) (s : State) : (setResult lo hi aux s).bands = s.bands := rfl
@[simp] theorem setResult_mem (lo hi aux : Word) (s : State) : (setResult lo hi aux s).mem = s.mem := rfl
@[simp] theorem setResult_powerOns (lo hi aux : Word) (s : State) : (setResult lo hi aux s).powerOns = s.powerOns := rfl
@[simp] theorem setResult_waits (lo hi aux : Word) (s : State) : (setResult lo hi aux s).waits = s.waits := rfl
@[simp] theorem setResult_agenda (lo hi aux : Word) (s : State) : (setResult lo hi aux s).agenda = s.agenda := rfl
@[simp] theorem setResult_responses (lo hi aux : Word) (s : State) : (setResult lo hi aux s).responses = s.responses := rfl

/-! ### setView -/

@[simp] theorem setView_bufBytes (b l : Word) (s : State) : (setView b l s).bufBytes = s.bufBytes := rfl
@[simp] theorem setView_ie (b l : Word) (s : State) : (setView b l s).ie = s.ie := rfl
@[simp] theorem setView_busy (b l : Word) (s : State) : (setView b l s).busy = s.busy := rfl
@[simp] theorem setView_done (b l : Word) (s : State) : (setView b l s).done = s.done := rfl
@[simp] theorem setView_cached (b l : Word) (s : State) : (setView b l s).cached = s.cached := rfl
@[simp] theorem setView_isSealed (b l : Word) (s : State) : (setView b l s).isSealed = s.isSealed := rfl
@[simp] theorem setView_validity (b l : Word) (s : State) : (setView b l s).validity = s.validity := rfl
@[simp] theorem setView_err (b l : Word) (s : State) : (setView b l s).err = s.err := rfl
@[simp] theorem setView_werr (b l : Word) (s : State) : (setView b l s).werr = s.werr := rfl
@[simp] theorem setView_ovf (b l : Word) (s : State) : (setView b l s).ovf = s.ovf := rfl
@[simp] theorem setView_pending (b l : Word) (s : State) : (setView b l s).pending = s.pending := rfl
@[simp] theorem setView_progress (b l : Word) (s : State) : (setView b l s).progress = s.progress := rfl
@[simp] theorem setView_arg0 (b l : Word) (s : State) : (setView b l s).arg0 = s.arg0 := rfl
@[simp] theorem setView_arg1 (b l : Word) (s : State) : (setView b l s).arg1 = s.arg1 := rfl
@[simp] theorem setView_bufLen (b l : Word) (s : State) : (setView b l s).bufLen = s.bufLen := rfl
@[simp] theorem setView_vbase (b l : Word) (s : State) : (setView b l s).vbase = b := rfl
@[simp] theorem setView_vlen (b l : Word) (s : State) : (setView b l s).vlen = l := rfl
@[simp] theorem setView_segCount (b l : Word) (s : State) : (setView b l s).segCount = s.segCount := rfl
@[simp] theorem setView_resLo (b l : Word) (s : State) : (setView b l s).resLo = s.resLo := rfl
@[simp] theorem setView_resHi (b l : Word) (s : State) : (setView b l s).resHi = s.resHi := rfl
@[simp] theorem setView_resAux (b l : Word) (s : State) : (setView b l s).resAux = s.resAux := rfl
@[simp] theorem setView_offs (b l : Word) (s : State) : (setView b l s).offs = s.offs := rfl
@[simp] theorem setView_seg (b l : Word) (s : State) : (setView b l s).seg = s.seg := rfl
@[simp] theorem setView_alg (b l : Word) (s : State) : (setView b l s).alg = s.alg := rfl
@[simp] theorem setView_tcfg (b l : Word) (s : State) : (setView b l s).tcfg = s.tcfg := rfl
@[simp] theorem setView_bands (b l : Word) (s : State) : (setView b l s).bands = s.bands := rfl
@[simp] theorem setView_mem (b l : Word) (s : State) : (setView b l s).mem = s.mem := rfl
@[simp] theorem setView_powerOns (b l : Word) (s : State) : (setView b l s).powerOns = s.powerOns := rfl
@[simp] theorem setView_waits (b l : Word) (s : State) : (setView b l s).waits = s.waits := rfl
@[simp] theorem setView_agenda (b l : Word) (s : State) : (setView b l s).agenda = s.agenda := rfl
@[simp] theorem setView_responses (b l : Word) (s : State) : (setView b l s).responses = s.responses := rfl

/-! ### issue -/

@[simp] theorem issue_bufBytes (w : Word) (s : State) : (issue w s).bufBytes = s.bufBytes := rfl
@[simp] theorem issue_ie (w : Word) (s : State) : (issue w s).ie = s.ie := rfl
@[simp] theorem issue_busy (w : Word) (s : State) : (issue w s).busy = true := rfl
@[simp] theorem issue_done (w : Word) (s : State) : (issue w s).done = false := rfl
@[simp] theorem issue_cached (w : Word) (s : State) : (issue w s).cached = s.cached := rfl
@[simp] theorem issue_isSealed (w : Word) (s : State) : (issue w s).isSealed = s.isSealed := rfl
@[simp] theorem issue_validity (w : Word) (s : State) : (issue w s).validity = s.validity := rfl
@[simp] theorem issue_err (w : Word) (s : State) : (issue w s).err = s.err := rfl
@[simp] theorem issue_werr (w : Word) (s : State) : (issue w s).werr = s.werr := rfl
@[simp] theorem issue_ovf (w : Word) (s : State) : (issue w s).ovf = s.ovf := rfl
@[simp] theorem issue_pending (w : Word) (s : State) : (issue w s).pending = some w := rfl
@[simp] theorem issue_progress (w : Word) (s : State) : (issue w s).progress = nextWait s := rfl
@[simp] theorem issue_arg0 (w : Word) (s : State) : (issue w s).arg0 = s.arg0 := rfl
@[simp] theorem issue_arg1 (w : Word) (s : State) : (issue w s).arg1 = s.arg1 := rfl
@[simp] theorem issue_bufLen (w : Word) (s : State) : (issue w s).bufLen = s.bufLen := rfl
@[simp] theorem issue_vbase (w : Word) (s : State) : (issue w s).vbase = s.vbase := rfl
@[simp] theorem issue_vlen (w : Word) (s : State) : (issue w s).vlen = s.vlen := rfl
@[simp] theorem issue_segCount (w : Word) (s : State) : (issue w s).segCount = s.segCount := rfl
@[simp] theorem issue_resLo (w : Word) (s : State) : (issue w s).resLo = s.resLo := rfl
@[simp] theorem issue_resHi (w : Word) (s : State) : (issue w s).resHi = s.resHi := rfl
@[simp] theorem issue_resAux (w : Word) (s : State) : (issue w s).resAux = s.resAux := rfl
@[simp] theorem issue_offs (w : Word) (s : State) : (issue w s).offs = s.offs := rfl
@[simp] theorem issue_seg (w : Word) (s : State) : (issue w s).seg = s.seg := rfl
@[simp] theorem issue_alg (w : Word) (s : State) : (issue w s).alg = s.alg := rfl
@[simp] theorem issue_tcfg (w : Word) (s : State) : (issue w s).tcfg = s.tcfg := rfl
@[simp] theorem issue_bands (w : Word) (s : State) : (issue w s).bands = s.bands := rfl
@[simp] theorem issue_mem (w : Word) (s : State) : (issue w s).mem = s.mem := rfl
@[simp] theorem issue_powerOns (w : Word) (s : State) : (issue w s).powerOns = s.powerOns := rfl
@[simp] theorem issue_waits (w : Word) (s : State) : (issue w s).waits = s.waits.tail := rfl
@[simp] theorem issue_agenda (w : Word) (s : State) : (issue w s).agenda = s.agenda := rfl
@[simp] theorem issue_responses (w : Word) (s : State) : (issue w s).responses = s.responses := rfl

/-! ### dropWrite -/

@[simp] theorem dropWrite_bufBytes (s : State) : (dropWrite s).bufBytes = s.bufBytes := rfl
@[simp] theorem dropWrite_ie (s : State) : (dropWrite s).ie = s.ie := rfl
@[simp] theorem dropWrite_busy (s : State) : (dropWrite s).busy = s.busy := rfl
@[simp] theorem dropWrite_done (s : State) : (dropWrite s).done = s.done := rfl
@[simp] theorem dropWrite_cached (s : State) : (dropWrite s).cached = s.cached := rfl
@[simp] theorem dropWrite_isSealed (s : State) : (dropWrite s).isSealed = s.isSealed := rfl
@[simp] theorem dropWrite_validity (s : State) : (dropWrite s).validity = s.validity := rfl
@[simp] theorem dropWrite_err (s : State) : (dropWrite s).err = s.err := rfl
@[simp] theorem dropWrite_werr (s : State) : (dropWrite s).werr = true := rfl
@[simp] theorem dropWrite_ovf (s : State) : (dropWrite s).ovf = s.ovf := rfl
@[simp] theorem dropWrite_pending (s : State) : (dropWrite s).pending = s.pending := rfl
@[simp] theorem dropWrite_progress (s : State) : (dropWrite s).progress = s.progress := rfl
@[simp] theorem dropWrite_arg0 (s : State) : (dropWrite s).arg0 = s.arg0 := rfl
@[simp] theorem dropWrite_arg1 (s : State) : (dropWrite s).arg1 = s.arg1 := rfl
@[simp] theorem dropWrite_bufLen (s : State) : (dropWrite s).bufLen = s.bufLen := rfl
@[simp] theorem dropWrite_vbase (s : State) : (dropWrite s).vbase = s.vbase := rfl
@[simp] theorem dropWrite_vlen (s : State) : (dropWrite s).vlen = s.vlen := rfl
@[simp] theorem dropWrite_segCount (s : State) : (dropWrite s).segCount = s.segCount := rfl
@[simp] theorem dropWrite_resLo (s : State) : (dropWrite s).resLo = s.resLo := rfl
@[simp] theorem dropWrite_resHi (s : State) : (dropWrite s).resHi = s.resHi := rfl
@[simp] theorem dropWrite_resAux (s : State) : (dropWrite s).resAux = s.resAux := rfl
@[simp] theorem dropWrite_offs (s : State) : (dropWrite s).offs = s.offs := rfl
@[simp] theorem dropWrite_seg (s : State) : (dropWrite s).seg = s.seg := rfl
@[simp] theorem dropWrite_alg (s : State) : (dropWrite s).alg = s.alg := rfl
@[simp] theorem dropWrite_tcfg (s : State) : (dropWrite s).tcfg = s.tcfg := rfl
@[simp] theorem dropWrite_bands (s : State) : (dropWrite s).bands = s.bands := rfl
@[simp] theorem dropWrite_mem (s : State) : (dropWrite s).mem = s.mem := rfl
@[simp] theorem dropWrite_powerOns (s : State) : (dropWrite s).powerOns = s.powerOns := rfl
@[simp] theorem dropWrite_waits (s : State) : (dropWrite s).waits = s.waits := rfl
@[simp] theorem dropWrite_agenda (s : State) : (dropWrite s).agenda = s.agenda := rfl
@[simp] theorem dropWrite_responses (s : State) : (dropWrite s).responses = s.responses := rfl

/-! ### setBufByte -/

@[simp] theorem setBufByte_bufBytes (k : Nat) (v : Byte) (s : State) : (setBufByte k v s).bufBytes = s.bufBytes := rfl
@[simp] theorem setBufByte_ie (k : Nat) (v : Byte) (s : State) : (setBufByte k v s).ie = s.ie := rfl
@[simp] theorem setBufByte_busy (k : Nat) (v : Byte) (s : State) : (setBufByte k v s).busy = s.busy := rfl
@[simp] theorem setBufByte_done (k : Nat) (v : Byte) (s : State) : (setBufByte k v s).done = s.done := rfl
@[simp] theorem setBufByte_cached (k : Nat) (v : Byte) (s : State) : (setBufByte k v s).cached = s.cached := rfl
@[simp] theorem setBufByte_isSealed (k : Nat) (v : Byte) (s : State) : (setBufByte k v s).isSealed = s.isSealed := rfl
@[simp] theorem setBufByte_validity (k : Nat) (v : Byte) (s : State) : (setBufByte k v s).validity = s.validity := rfl
@[simp] theorem setBufByte_err (k : Nat) (v : Byte) (s : State) : (setBufByte k v s).err = s.err := rfl
@[simp] theorem setBufByte_werr (k : Nat) (v : Byte) (s : State) : (setBufByte k v s).werr = s.werr := rfl
@[simp] theorem setBufByte_ovf (k : Nat) (v : Byte) (s : State) : (setBufByte k v s).ovf = s.ovf := rfl
@[simp] theorem setBufByte_pending (k : Nat) (v : Byte) (s : State) : (setBufByte k v s).pending = s.pending := rfl
@[simp] theorem setBufByte_progress (k : Nat) (v : Byte) (s : State) : (setBufByte k v s).progress = s.progress := rfl
@[simp] theorem setBufByte_arg0 (k : Nat) (v : Byte) (s : State) : (setBufByte k v s).arg0 = s.arg0 := rfl
@[simp] theorem setBufByte_arg1 (k : Nat) (v : Byte) (s : State) : (setBufByte k v s).arg1 = s.arg1 := rfl
@[simp] theorem setBufByte_bufLen (k : Nat) (v : Byte) (s : State) : (setBufByte k v s).bufLen = s.bufLen := rfl
@[simp] theorem setBufByte_vbase (k : Nat) (v : Byte) (s : State) : (setBufByte k v s).vbase = s.vbase := rfl
@[simp] theorem setBufByte_vlen (k : Nat) (v : Byte) (s : State) : (setBufByte k v s).vlen = s.vlen := rfl
@[simp] theorem setBufByte_segCount (k : Nat) (v : Byte) (s : State) : (setBufByte k v s).segCount = s.segCount := rfl
@[simp] theorem setBufByte_resLo (k : Nat) (v : Byte) (s : State) : (setBufByte k v s).resLo = s.resLo := rfl
@[simp] theorem setBufByte_resHi (k : Nat) (v : Byte) (s : State) : (setBufByte k v s).resHi = s.resHi := rfl
@[simp] theorem setBufByte_resAux (k : Nat) (v : Byte) (s : State) : (setBufByte k v s).resAux = s.resAux := rfl
@[simp] theorem setBufByte_offs (k : Nat) (v : Byte) (s : State) : (setBufByte k v s).offs = s.offs := rfl
@[simp] theorem setBufByte_seg (k : Nat) (v : Byte) (s : State) : (setBufByte k v s).seg = s.seg := rfl
@[simp] theorem setBufByte_alg (k : Nat) (v : Byte) (s : State) : (setBufByte k v s).alg = s.alg := rfl
@[simp] theorem setBufByte_tcfg (k : Nat) (v : Byte) (s : State) : (setBufByte k v s).tcfg = s.tcfg := rfl
@[simp] theorem setBufByte_bands (k : Nat) (v : Byte) (s : State) : (setBufByte k v s).bands = s.bands := rfl
@[simp] theorem setBufByte_mem (k : Nat) (v : Byte) (s : State) : (setBufByte k v s).mem = s.mem.set (bufBase + k) v := rfl
@[simp] theorem setBufByte_powerOns (k : Nat) (v : Byte) (s : State) : (setBufByte k v s).powerOns = s.powerOns := rfl
@[simp] theorem setBufByte_waits (k : Nat) (v : Byte) (s : State) : (setBufByte k v s).waits = s.waits := rfl
@[simp] theorem setBufByte_agenda (k : Nat) (v : Byte) (s : State) : (setBufByte k v s).agenda = s.agenda := rfl
@[simp] theorem setBufByte_responses (k : Nat) (v : Byte) (s : State) : (setBufByte k v s).responses = s.responses := rfl

/-! ### setBufWord -/

@[simp] theorem setBufWord_bufBytes (k : Nat) (v : Word) (s : State) : (setBufWord k v s).bufBytes = s.bufBytes := rfl
@[simp] theorem setBufWord_ie (k : Nat) (v : Word) (s : State) : (setBufWord k v s).ie = s.ie := rfl
@[simp] theorem setBufWord_busy (k : Nat) (v : Word) (s : State) : (setBufWord k v s).busy = s.busy := rfl
@[simp] theorem setBufWord_done (k : Nat) (v : Word) (s : State) : (setBufWord k v s).done = s.done := rfl
@[simp] theorem setBufWord_cached (k : Nat) (v : Word) (s : State) : (setBufWord k v s).cached = s.cached := rfl
@[simp] theorem setBufWord_isSealed (k : Nat) (v : Word) (s : State) : (setBufWord k v s).isSealed = s.isSealed := rfl
@[simp] theorem setBufWord_validity (k : Nat) (v : Word) (s : State) : (setBufWord k v s).validity = s.validity := rfl
@[simp] theorem setBufWord_err (k : Nat) (v : Word) (s : State) : (setBufWord k v s).err = s.err := rfl
@[simp] theorem setBufWord_werr (k : Nat) (v : Word) (s : State) : (setBufWord k v s).werr = s.werr := rfl
@[simp] theorem setBufWord_ovf (k : Nat) (v : Word) (s : State) : (setBufWord k v s).ovf = s.ovf := rfl
@[simp] theorem setBufWord_pending (k : Nat) (v : Word) (s : State) : (setBufWord k v s).pending = s.pending := rfl
@[simp] theorem setBufWord_progress (k : Nat) (v : Word) (s : State) : (setBufWord k v s).progress = s.progress := rfl
@[simp] theorem setBufWord_arg0 (k : Nat) (v : Word) (s : State) : (setBufWord k v s).arg0 = s.arg0 := rfl
@[simp] theorem setBufWord_arg1 (k : Nat) (v : Word) (s : State) : (setBufWord k v s).arg1 = s.arg1 := rfl
@[simp] theorem setBufWord_bufLen (k : Nat) (v : Word) (s : State) : (setBufWord k v s).bufLen = s.bufLen := rfl
@[simp] theorem setBufWord_vbase (k : Nat) (v : Word) (s : State) : (setBufWord k v s).vbase = s.vbase := rfl
@[simp] theorem setBufWord_vlen (k : Nat) (v : Word) (s : State) : (setBufWord k v s).vlen = s.vlen := rfl
@[simp] theorem setBufWord_segCount (k : Nat) (v : Word) (s : State) : (setBufWord k v s).segCount = s.segCount := rfl
@[simp] theorem setBufWord_resLo (k : Nat) (v : Word) (s : State) : (setBufWord k v s).resLo = s.resLo := rfl
@[simp] theorem setBufWord_resHi (k : Nat) (v : Word) (s : State) : (setBufWord k v s).resHi = s.resHi := rfl
@[simp] theorem setBufWord_resAux (k : Nat) (v : Word) (s : State) : (setBufWord k v s).resAux = s.resAux := rfl
@[simp] theorem setBufWord_offs (k : Nat) (v : Word) (s : State) : (setBufWord k v s).offs = s.offs := rfl
@[simp] theorem setBufWord_seg (k : Nat) (v : Word) (s : State) : (setBufWord k v s).seg = s.seg := rfl
@[simp] theorem setBufWord_alg (k : Nat) (v : Word) (s : State) : (setBufWord k v s).alg = s.alg := rfl
@[simp] theorem setBufWord_tcfg (k : Nat) (v : Word) (s : State) : (setBufWord k v s).tcfg = s.tcfg := rfl
@[simp] theorem setBufWord_bands (k : Nat) (v : Word) (s : State) : (setBufWord k v s).bands = s.bands := rfl
@[simp] theorem setBufWord_mem (k : Nat) (v : Word) (s : State) : (setBufWord k v s).mem =
    (((s.mem.set (bufBase + k) (v.extractLsb' 0 8)).set (bufBase + (k + 1)) (v.extractLsb' 8 8)).set
      (bufBase + (k + 2)) (v.extractLsb' 16 8)).set (bufBase + (k + 3)) (v.extractLsb' 24 8) := rfl
@[simp] theorem setBufWord_powerOns (k : Nat) (v : Word) (s : State) : (setBufWord k v s).powerOns = s.powerOns := rfl
@[simp] theorem setBufWord_waits (k : Nat) (v : Word) (s : State) : (setBufWord k v s).waits = s.waits := rfl
@[simp] theorem setBufWord_agenda (k : Nat) (v : Word) (s : State) : (setBufWord k v s).agenda = s.agenda := rfl
@[simp] theorem setBufWord_responses (k : Nat) (v : Word) (s : State) : (setBufWord k v s).responses = s.responses := rfl

/-! ### clearStatus -/

@[simp] theorem clearStatus_bufBytes (v : Word) (s : State) : (clearStatus v s).bufBytes = s.bufBytes := rfl
@[simp] theorem clearStatus_ie (v : Word) (s : State) : (clearStatus v s).ie = s.ie := rfl
@[simp] theorem clearStatus_busy (v : Word) (s : State) : (clearStatus v s).busy = s.busy := rfl
@[simp] theorem clearStatus_done (v : Word) (s : State) : (clearStatus v s).done = (s.done && !v.getLsbD 1) := rfl
@[simp] theorem clearStatus_cached (v : Word) (s : State) : (clearStatus v s).cached = s.cached := rfl
@[simp] theorem clearStatus_isSealed (v : Word) (s : State) : (clearStatus v s).isSealed = s.isSealed := rfl
@[simp] theorem clearStatus_validity (v : Word) (s : State) : (clearStatus v s).validity = s.validity := rfl
@[simp] theorem clearStatus_err (v : Word) (s : State) : (clearStatus v s).err = s.err := rfl
@[simp] theorem clearStatus_werr (v : Word) (s : State) : (clearStatus v s).werr = (s.werr && !v.getLsbD 12) := rfl
@[simp] theorem clearStatus_ovf (v : Word) (s : State) : (clearStatus v s).ovf = (s.ovf && !v.getLsbD 13) := rfl
@[simp] theorem clearStatus_pending (v : Word) (s : State) : (clearStatus v s).pending = s.pending := rfl
@[simp] theorem clearStatus_progress (v : Word) (s : State) : (clearStatus v s).progress = s.progress := rfl
@[simp] theorem clearStatus_arg0 (v : Word) (s : State) : (clearStatus v s).arg0 = s.arg0 := rfl
@[simp] theorem clearStatus_arg1 (v : Word) (s : State) : (clearStatus v s).arg1 = s.arg1 := rfl
@[simp] theorem clearStatus_bufLen (v : Word) (s : State) : (clearStatus v s).bufLen = s.bufLen := rfl
@[simp] theorem clearStatus_vbase (v : Word) (s : State) : (clearStatus v s).vbase = s.vbase := rfl
@[simp] theorem clearStatus_vlen (v : Word) (s : State) : (clearStatus v s).vlen = s.vlen := rfl
@[simp] theorem clearStatus_segCount (v : Word) (s : State) : (clearStatus v s).segCount = s.segCount := rfl
@[simp] theorem clearStatus_resLo (v : Word) (s : State) : (clearStatus v s).resLo = s.resLo := rfl
@[simp] theorem clearStatus_resHi (v : Word) (s : State) : (clearStatus v s).resHi = s.resHi := rfl
@[simp] theorem clearStatus_resAux (v : Word) (s : State) : (clearStatus v s).resAux = s.resAux := rfl
@[simp] theorem clearStatus_offs (v : Word) (s : State) : (clearStatus v s).offs = s.offs := rfl
@[simp] theorem clearStatus_seg (v : Word) (s : State) : (clearStatus v s).seg = s.seg := rfl
@[simp] theorem clearStatus_alg (v : Word) (s : State) : (clearStatus v s).alg = s.alg := rfl
@[simp] theorem clearStatus_tcfg (v : Word) (s : State) : (clearStatus v s).tcfg = s.tcfg := rfl
@[simp] theorem clearStatus_bands (v : Word) (s : State) : (clearStatus v s).bands = s.bands := rfl
@[simp] theorem clearStatus_mem (v : Word) (s : State) : (clearStatus v s).mem = s.mem := rfl
@[simp] theorem clearStatus_powerOns (v : Word) (s : State) : (clearStatus v s).powerOns = s.powerOns := rfl
@[simp] theorem clearStatus_waits (v : Word) (s : State) : (clearStatus v s).waits = s.waits := rfl
@[simp] theorem clearStatus_agenda (v : Word) (s : State) : (clearStatus v s).agenda = s.agenda := rfl
@[simp] theorem clearStatus_responses (v : Word) (s : State) : (clearStatus v s).responses = s.responses := rfl

/-! ### respond -/

@[simp] theorem respond_bufBytes (d : Word) (t : Target) (s : State) : (respond d t s).bufBytes = s.bufBytes := rfl
@[simp] theorem respond_ie (d : Word) (t : Target) (s : State) : (respond d t s).ie = s.ie := rfl
@[simp] theorem respond_busy (d : Word) (t : Target) (s : State) : (respond d t s).busy = s.busy := rfl
@[simp] theorem respond_done (d : Word) (t : Target) (s : State) : (respond d t s).done = s.done := rfl
@[simp] theorem respond_cached (d : Word) (t : Target) (s : State) : (respond d t s).cached = s.cached := rfl
@[simp] theorem respond_isSealed (d : Word) (t : Target) (s : State) : (respond d t s).isSealed = s.isSealed := rfl
@[simp] theorem respond_validity (d : Word) (t : Target) (s : State) : (respond d t s).validity = s.validity := rfl
@[simp] theorem respond_err (d : Word) (t : Target) (s : State) : (respond d t s).err = s.err := rfl
@[simp] theorem respond_werr (d : Word) (t : Target) (s : State) : (respond d t s).werr = s.werr := rfl
@[simp] theorem respond_ovf (d : Word) (t : Target) (s : State) : (respond d t s).ovf = s.ovf := rfl
@[simp] theorem respond_pending (d : Word) (t : Target) (s : State) : (respond d t s).pending = s.pending := rfl
@[simp] theorem respond_progress (d : Word) (t : Target) (s : State) : (respond d t s).progress = s.progress := rfl
@[simp] theorem respond_arg0 (d : Word) (t : Target) (s : State) : (respond d t s).arg0 = s.arg0 := rfl
@[simp] theorem respond_arg1 (d : Word) (t : Target) (s : State) : (respond d t s).arg1 = s.arg1 := rfl
@[simp] theorem respond_bufLen (d : Word) (t : Target) (s : State) : (respond d t s).bufLen = s.bufLen := rfl
@[simp] theorem respond_vbase (d : Word) (t : Target) (s : State) : (respond d t s).vbase = s.vbase := rfl
@[simp] theorem respond_vlen (d : Word) (t : Target) (s : State) : (respond d t s).vlen = s.vlen := rfl
@[simp] theorem respond_segCount (d : Word) (t : Target) (s : State) : (respond d t s).segCount = s.segCount := rfl
@[simp] theorem respond_resLo (d : Word) (t : Target) (s : State) : (respond d t s).resLo = s.resLo := rfl
@[simp] theorem respond_resHi (d : Word) (t : Target) (s : State) : (respond d t s).resHi = s.resHi := rfl
@[simp] theorem respond_resAux (d : Word) (t : Target) (s : State) : (respond d t s).resAux = s.resAux := rfl
@[simp] theorem respond_offs (d : Word) (t : Target) (s : State) : (respond d t s).offs = s.offs := rfl
@[simp] theorem respond_seg (d : Word) (t : Target) (s : State) : (respond d t s).seg = s.seg := rfl
@[simp] theorem respond_alg (d : Word) (t : Target) (s : State) : (respond d t s).alg = s.alg := rfl
@[simp] theorem respond_tcfg (d : Word) (t : Target) (s : State) : (respond d t s).tcfg = s.tcfg := rfl
@[simp] theorem respond_bands (d : Word) (t : Target) (s : State) : (respond d t s).bands = s.bands := rfl
@[simp] theorem respond_mem (d : Word) (t : Target) (s : State) : (respond d t s).mem = s.mem := rfl
@[simp] theorem respond_powerOns (d : Word) (t : Target) (s : State) : (respond d t s).powerOns = s.powerOns := rfl
@[simp] theorem respond_waits (d : Word) (t : Target) (s : State) : (respond d t s).waits = s.waits := rfl
@[simp] theorem respond_agenda (d : Word) (t : Target) (s : State) : (respond d t s).agenda = s.agenda := rfl
@[simp] theorem respond_responses (d : Word) (t : Target) (s : State) : (respond d t s).responses = ⟨d, decide (t = .busError)⟩ :: s.responses := rfl

/-! ### setSeg -/

@[simp] theorem setSeg_bufBytes (k : Fin 16) (g : Segment) (s : State) : (setSeg k g s).bufBytes = s.bufBytes := rfl
@[simp] theorem setSeg_ie (k : Fin 16) (g : Segment) (s : State) : (setSeg k g s).ie = s.ie := rfl
@[simp] theorem setSeg_busy (k : Fin 16) (g : Segment) (s : State) : (setSeg k g s).busy = s.busy := rfl
@[simp] theorem setSeg_done (k : Fin 16) (g : Segment) (s : State) : (setSeg k g s).done = s.done := rfl
@[simp] theorem setSeg_cached (k : Fin 16) (g : Segment) (s : State) : (setSeg k g s).cached = s.cached := rfl
@[simp] theorem setSeg_isSealed (k : Fin 16) (g : Segment) (s : State) : (setSeg k g s).isSealed = s.isSealed := rfl
@[simp] theorem setSeg_validity (k : Fin 16) (g : Segment) (s : State) : (setSeg k g s).validity = s.validity := rfl
@[simp] theorem setSeg_err (k : Fin 16) (g : Segment) (s : State) : (setSeg k g s).err = s.err := rfl
@[simp] theorem setSeg_werr (k : Fin 16) (g : Segment) (s : State) : (setSeg k g s).werr = s.werr := rfl
@[simp] theorem setSeg_ovf (k : Fin 16) (g : Segment) (s : State) : (setSeg k g s).ovf = s.ovf := rfl
@[simp] theorem setSeg_pending (k : Fin 16) (g : Segment) (s : State) : (setSeg k g s).pending = s.pending := rfl
@[simp] theorem setSeg_progress (k : Fin 16) (g : Segment) (s : State) : (setSeg k g s).progress = s.progress := rfl
@[simp] theorem setSeg_arg0 (k : Fin 16) (g : Segment) (s : State) : (setSeg k g s).arg0 = s.arg0 := rfl
@[simp] theorem setSeg_arg1 (k : Fin 16) (g : Segment) (s : State) : (setSeg k g s).arg1 = s.arg1 := rfl
@[simp] theorem setSeg_bufLen (k : Fin 16) (g : Segment) (s : State) : (setSeg k g s).bufLen = s.bufLen := rfl
@[simp] theorem setSeg_vbase (k : Fin 16) (g : Segment) (s : State) : (setSeg k g s).vbase = s.vbase := rfl
@[simp] theorem setSeg_vlen (k : Fin 16) (g : Segment) (s : State) : (setSeg k g s).vlen = s.vlen := rfl
@[simp] theorem setSeg_segCount (k : Fin 16) (g : Segment) (s : State) : (setSeg k g s).segCount = s.segCount := rfl
@[simp] theorem setSeg_resLo (k : Fin 16) (g : Segment) (s : State) : (setSeg k g s).resLo = s.resLo := rfl
@[simp] theorem setSeg_resHi (k : Fin 16) (g : Segment) (s : State) : (setSeg k g s).resHi = s.resHi := rfl
@[simp] theorem setSeg_resAux (k : Fin 16) (g : Segment) (s : State) : (setSeg k g s).resAux = s.resAux := rfl
@[simp] theorem setSeg_offs (k : Fin 16) (g : Segment) (s : State) : (setSeg k g s).offs = s.offs := rfl
@[simp] theorem setSeg_seg (k : Fin 16) (g : Segment) (s : State) : (setSeg k g s).seg = s.seg.set k g := rfl
@[simp] theorem setSeg_alg (k : Fin 16) (g : Segment) (s : State) : (setSeg k g s).alg = s.alg := rfl
@[simp] theorem setSeg_tcfg (k : Fin 16) (g : Segment) (s : State) : (setSeg k g s).tcfg = s.tcfg := rfl
@[simp] theorem setSeg_bands (k : Fin 16) (g : Segment) (s : State) : (setSeg k g s).bands = s.bands := rfl
@[simp] theorem setSeg_mem (k : Fin 16) (g : Segment) (s : State) : (setSeg k g s).mem = s.mem := rfl
@[simp] theorem setSeg_powerOns (k : Fin 16) (g : Segment) (s : State) : (setSeg k g s).powerOns = s.powerOns := rfl
@[simp] theorem setSeg_waits (k : Fin 16) (g : Segment) (s : State) : (setSeg k g s).waits = s.waits := rfl
@[simp] theorem setSeg_agenda (k : Fin 16) (g : Segment) (s : State) : (setSeg k g s).agenda = s.agenda := rfl
@[simp] theorem setSeg_responses (k : Fin 16) (g : Segment) (s : State) : (setSeg k g s).responses = s.responses := rfl

/-! ### setAlg -/

@[simp] theorem setAlg_bufBytes (a : Fin 4) (g : AlgSlot) (s : State) : (setAlg a g s).bufBytes = s.bufBytes := rfl
@[simp] theorem setAlg_ie (a : Fin 4) (g : AlgSlot) (s : State) : (setAlg a g s).ie = s.ie := rfl
@[simp] theorem setAlg_busy (a : Fin 4) (g : AlgSlot) (s : State) : (setAlg a g s).busy = s.busy := rfl
@[simp] theorem setAlg_done (a : Fin 4) (g : AlgSlot) (s : State) : (setAlg a g s).done = s.done := rfl
@[simp] theorem setAlg_cached (a : Fin 4) (g : AlgSlot) (s : State) : (setAlg a g s).cached = s.cached := rfl
@[simp] theorem setAlg_isSealed (a : Fin 4) (g : AlgSlot) (s : State) : (setAlg a g s).isSealed = s.isSealed := rfl
@[simp] theorem setAlg_validity (a : Fin 4) (g : AlgSlot) (s : State) : (setAlg a g s).validity = s.validity := rfl
@[simp] theorem setAlg_err (a : Fin 4) (g : AlgSlot) (s : State) : (setAlg a g s).err = s.err := rfl
@[simp] theorem setAlg_werr (a : Fin 4) (g : AlgSlot) (s : State) : (setAlg a g s).werr = s.werr := rfl
@[simp] theorem setAlg_ovf (a : Fin 4) (g : AlgSlot) (s : State) : (setAlg a g s).ovf = s.ovf := rfl
@[simp] theorem setAlg_pending (a : Fin 4) (g : AlgSlot) (s : State) : (setAlg a g s).pending = s.pending := rfl
@[simp] theorem setAlg_progress (a : Fin 4) (g : AlgSlot) (s : State) : (setAlg a g s).progress = s.progress := rfl
@[simp] theorem setAlg_arg0 (a : Fin 4) (g : AlgSlot) (s : State) : (setAlg a g s).arg0 = s.arg0 := rfl
@[simp] theorem setAlg_arg1 (a : Fin 4) (g : AlgSlot) (s : State) : (setAlg a g s).arg1 = s.arg1 := rfl
@[simp] theorem setAlg_bufLen (a : Fin 4) (g : AlgSlot) (s : State) : (setAlg a g s).bufLen = s.bufLen := rfl
@[simp] theorem setAlg_vbase (a : Fin 4) (g : AlgSlot) (s : State) : (setAlg a g s).vbase = s.vbase := rfl
@[simp] theorem setAlg_vlen (a : Fin 4) (g : AlgSlot) (s : State) : (setAlg a g s).vlen = s.vlen := rfl
@[simp] theorem setAlg_segCount (a : Fin 4) (g : AlgSlot) (s : State) : (setAlg a g s).segCount = s.segCount := rfl
@[simp] theorem setAlg_resLo (a : Fin 4) (g : AlgSlot) (s : State) : (setAlg a g s).resLo = s.resLo := rfl
@[simp] theorem setAlg_resHi (a : Fin 4) (g : AlgSlot) (s : State) : (setAlg a g s).resHi = s.resHi := rfl
@[simp] theorem setAlg_resAux (a : Fin 4) (g : AlgSlot) (s : State) : (setAlg a g s).resAux = s.resAux := rfl
@[simp] theorem setAlg_offs (a : Fin 4) (g : AlgSlot) (s : State) : (setAlg a g s).offs = s.offs := rfl
@[simp] theorem setAlg_seg (a : Fin 4) (g : AlgSlot) (s : State) : (setAlg a g s).seg = s.seg := rfl
@[simp] theorem setAlg_alg (a : Fin 4) (g : AlgSlot) (s : State) : (setAlg a g s).alg = s.alg.set a g := rfl
@[simp] theorem setAlg_tcfg (a : Fin 4) (g : AlgSlot) (s : State) : (setAlg a g s).tcfg = s.tcfg := rfl
@[simp] theorem setAlg_bands (a : Fin 4) (g : AlgSlot) (s : State) : (setAlg a g s).bands = s.bands := rfl
@[simp] theorem setAlg_mem (a : Fin 4) (g : AlgSlot) (s : State) : (setAlg a g s).mem = s.mem := rfl
@[simp] theorem setAlg_powerOns (a : Fin 4) (g : AlgSlot) (s : State) : (setAlg a g s).powerOns = s.powerOns := rfl
@[simp] theorem setAlg_waits (a : Fin 4) (g : AlgSlot) (s : State) : (setAlg a g s).waits = s.waits := rfl
@[simp] theorem setAlg_agenda (a : Fin 4) (g : AlgSlot) (s : State) : (setAlg a g s).agenda = s.agenda := rfl
@[simp] theorem setAlg_responses (a : Fin 4) (g : AlgSlot) (s : State) : (setAlg a g s).responses = s.responses := rfl

/-! ### setBand -/

@[simp] theorem setBand_bufBytes (t : Fin 4) (b : Fin 8) (d : Band) (s : State) : (setBand t b d s).bufBytes = s.bufBytes := rfl
@[simp] theorem setBand_ie (t : Fin 4) (b : Fin 8) (d : Band) (s : State) : (setBand t b d s).ie = s.ie := rfl
@[simp] theorem setBand_busy (t : Fin 4) (b : Fin 8) (d : Band) (s : State) : (setBand t b d s).busy = s.busy := rfl
@[simp] theorem setBand_done (t : Fin 4) (b : Fin 8) (d : Band) (s : State) : (setBand t b d s).done = s.done := rfl
@[simp] theorem setBand_cached (t : Fin 4) (b : Fin 8) (d : Band) (s : State) : (setBand t b d s).cached = s.cached := rfl
@[simp] theorem setBand_isSealed (t : Fin 4) (b : Fin 8) (d : Band) (s : State) : (setBand t b d s).isSealed = s.isSealed := rfl
@[simp] theorem setBand_validity (t : Fin 4) (b : Fin 8) (d : Band) (s : State) : (setBand t b d s).validity = s.validity := rfl
@[simp] theorem setBand_err (t : Fin 4) (b : Fin 8) (d : Band) (s : State) : (setBand t b d s).err = s.err := rfl
@[simp] theorem setBand_werr (t : Fin 4) (b : Fin 8) (d : Band) (s : State) : (setBand t b d s).werr = s.werr := rfl
@[simp] theorem setBand_ovf (t : Fin 4) (b : Fin 8) (d : Band) (s : State) : (setBand t b d s).ovf = s.ovf := rfl
@[simp] theorem setBand_pending (t : Fin 4) (b : Fin 8) (d : Band) (s : State) : (setBand t b d s).pending = s.pending := rfl
@[simp] theorem setBand_progress (t : Fin 4) (b : Fin 8) (d : Band) (s : State) : (setBand t b d s).progress = s.progress := rfl
@[simp] theorem setBand_arg0 (t : Fin 4) (b : Fin 8) (d : Band) (s : State) : (setBand t b d s).arg0 = s.arg0 := rfl
@[simp] theorem setBand_arg1 (t : Fin 4) (b : Fin 8) (d : Band) (s : State) : (setBand t b d s).arg1 = s.arg1 := rfl
@[simp] theorem setBand_bufLen (t : Fin 4) (b : Fin 8) (d : Band) (s : State) : (setBand t b d s).bufLen = s.bufLen := rfl
@[simp] theorem setBand_vbase (t : Fin 4) (b : Fin 8) (d : Band) (s : State) : (setBand t b d s).vbase = s.vbase := rfl
@[simp] theorem setBand_vlen (t : Fin 4) (b : Fin 8) (d : Band) (s : State) : (setBand t b d s).vlen = s.vlen := rfl
@[simp] theorem setBand_segCount (t : Fin 4) (b : Fin 8) (d : Band) (s : State) : (setBand t b d s).segCount = s.segCount := rfl
@[simp] theorem setBand_resLo (t : Fin 4) (b : Fin 8) (d : Band) (s : State) : (setBand t b d s).resLo = s.resLo := rfl
@[simp] theorem setBand_resHi (t : Fin 4) (b : Fin 8) (d : Band) (s : State) : (setBand t b d s).resHi = s.resHi := rfl
@[simp] theorem setBand_resAux (t : Fin 4) (b : Fin 8) (d : Band) (s : State) : (setBand t b d s).resAux = s.resAux := rfl
@[simp] theorem setBand_offs (t : Fin 4) (b : Fin 8) (d : Band) (s : State) : (setBand t b d s).offs = s.offs := rfl
@[simp] theorem setBand_seg (t : Fin 4) (b : Fin 8) (d : Band) (s : State) : (setBand t b d s).seg = s.seg := rfl
@[simp] theorem setBand_alg (t : Fin 4) (b : Fin 8) (d : Band) (s : State) : (setBand t b d s).alg = s.alg := rfl
@[simp] theorem setBand_tcfg (t : Fin 4) (b : Fin 8) (d : Band) (s : State) : (setBand t b d s).tcfg = s.tcfg := rfl
@[simp] theorem setBand_bands (t : Fin 4) (b : Fin 8) (d : Band) (s : State) : (setBand t b d s).bands = s.bands.set t (s.bands[t].set b d) := rfl
@[simp] theorem setBand_mem (t : Fin 4) (b : Fin 8) (d : Band) (s : State) : (setBand t b d s).mem = s.mem := rfl
@[simp] theorem setBand_powerOns (t : Fin 4) (b : Fin 8) (d : Band) (s : State) : (setBand t b d s).powerOns = s.powerOns := rfl
@[simp] theorem setBand_waits (t : Fin 4) (b : Fin 8) (d : Band) (s : State) : (setBand t b d s).waits = s.waits := rfl
@[simp] theorem setBand_agenda (t : Fin 4) (b : Fin 8) (d : Band) (s : State) : (setBand t b d s).agenda = s.agenda := rfl
@[simp] theorem setBand_responses (t : Fin 4) (b : Fin 8) (d : Band) (s : State) : (setBand t b d s).responses = s.responses := rfl

/-! ### resetBlock -/

@[simp] theorem resetBlock_bufBytes (s : State) : (resetBlock s).bufBytes = s.bufBytes := rfl
@[simp] theorem resetBlock_ie (s : State) : (resetBlock s).ie = false := rfl
@[simp] theorem resetBlock_busy (s : State) : (resetBlock s).busy = false := rfl
@[simp] theorem resetBlock_done (s : State) : (resetBlock s).done = false := rfl
@[simp] theorem resetBlock_cached (s : State) : (resetBlock s).cached = false := rfl
@[simp] theorem resetBlock_isSealed (s : State) : (resetBlock s).isSealed = false := rfl
@[simp] theorem resetBlock_validity (s : State) : (resetBlock s).validity = .none := rfl
@[simp] theorem resetBlock_err (s : State) : (resetBlock s).err = .ok := rfl
@[simp] theorem resetBlock_werr (s : State) : (resetBlock s).werr = false := rfl
@[simp] theorem resetBlock_ovf (s : State) : (resetBlock s).ovf = false := rfl
@[simp] theorem resetBlock_pending (s : State) : (resetBlock s).pending = none := rfl
@[simp] theorem resetBlock_progress (s : State) : (resetBlock s).progress = 0 := rfl
@[simp] theorem resetBlock_arg0 (s : State) : (resetBlock s).arg0 = 0 := rfl
@[simp] theorem resetBlock_arg1 (s : State) : (resetBlock s).arg1 = 0 := rfl
@[simp] theorem resetBlock_bufLen (s : State) : (resetBlock s).bufLen = 0 := rfl
@[simp] theorem resetBlock_vbase (s : State) : (resetBlock s).vbase = 0 := rfl
@[simp] theorem resetBlock_vlen (s : State) : (resetBlock s).vlen = 0 := rfl
@[simp] theorem resetBlock_segCount (s : State) : (resetBlock s).segCount = 0 := rfl
@[simp] theorem resetBlock_resLo (s : State) : (resetBlock s).resLo = 0 := rfl
@[simp] theorem resetBlock_resHi (s : State) : (resetBlock s).resHi = 0 := rfl
@[simp] theorem resetBlock_resAux (s : State) : (resetBlock s).resAux = 0 := rfl
@[simp] theorem resetBlock_offs (s : State) : (resetBlock s).offs = Vector.replicate 64 0 := rfl
@[simp] theorem resetBlock_seg (s : State) : (resetBlock s).seg = Vector.replicate 16 ⟨0, 0⟩ := rfl
@[simp] theorem resetBlock_alg (s : State) : (resetBlock s).alg = Vector.replicate 4 ⟨0, 0, 0, 0⟩ := rfl
@[simp] theorem resetBlock_tcfg (s : State) : (resetBlock s).tcfg = Vector.replicate 4 0 := rfl
@[simp] theorem resetBlock_bands (s : State) : (resetBlock s).bands = Vector.replicate 4 (Vector.replicate 8 ⟨0, 0, 0, 0, false, 0⟩) := rfl
@[simp] theorem resetBlock_mem (s : State) : (resetBlock s).mem = s.mem := rfl
@[simp] theorem resetBlock_powerOns (s : State) : (resetBlock s).powerOns = s.powerOns := rfl
@[simp] theorem resetBlock_waits (s : State) : (resetBlock s).waits = s.waits := rfl
@[simp] theorem resetBlock_agenda (s : State) : (resetBlock s).agenda = s.agenda := rfl
@[simp] theorem resetBlock_responses (s : State) : (resetBlock s).responses = s.responses := rfl

/-! ### powerCycle -/

@[simp] theorem powerCycle_bufBytes (s : State) : (powerCycle s).bufBytes = s.bufBytes := rfl
@[simp] theorem powerCycle_ie (s : State) : (powerCycle s).ie = false := rfl
@[simp] theorem powerCycle_busy (s : State) : (powerCycle s).busy = false := rfl
@[simp] theorem powerCycle_done (s : State) : (powerCycle s).done = false := rfl
@[simp] theorem powerCycle_cached (s : State) : (powerCycle s).cached = false := rfl
@[simp] theorem powerCycle_isSealed (s : State) : (powerCycle s).isSealed = false := rfl
@[simp] theorem powerCycle_validity (s : State) : (powerCycle s).validity = .none := rfl
@[simp] theorem powerCycle_err (s : State) : (powerCycle s).err = .ok := rfl
@[simp] theorem powerCycle_werr (s : State) : (powerCycle s).werr = false := rfl
@[simp] theorem powerCycle_ovf (s : State) : (powerCycle s).ovf = false := rfl
@[simp] theorem powerCycle_pending (s : State) : (powerCycle s).pending = none := rfl
@[simp] theorem powerCycle_progress (s : State) : (powerCycle s).progress = 0 := rfl
@[simp] theorem powerCycle_arg0 (s : State) : (powerCycle s).arg0 = 0 := rfl
@[simp] theorem powerCycle_arg1 (s : State) : (powerCycle s).arg1 = 0 := rfl
@[simp] theorem powerCycle_bufLen (s : State) : (powerCycle s).bufLen = 0 := rfl
@[simp] theorem powerCycle_vbase (s : State) : (powerCycle s).vbase = 0 := rfl
@[simp] theorem powerCycle_vlen (s : State) : (powerCycle s).vlen = 0 := rfl
@[simp] theorem powerCycle_segCount (s : State) : (powerCycle s).segCount = 0 := rfl
@[simp] theorem powerCycle_resLo (s : State) : (powerCycle s).resLo = 0 := rfl
@[simp] theorem powerCycle_resHi (s : State) : (powerCycle s).resHi = 0 := rfl
@[simp] theorem powerCycle_resAux (s : State) : (powerCycle s).resAux = 0 := rfl
@[simp] theorem powerCycle_offs (s : State) : (powerCycle s).offs = Vector.replicate 64 0 := rfl
@[simp] theorem powerCycle_seg (s : State) : (powerCycle s).seg = Vector.replicate 16 ⟨0, 0⟩ := rfl
@[simp] theorem powerCycle_alg (s : State) : (powerCycle s).alg = Vector.replicate 4 ⟨0, 0, 0, 0⟩ := rfl
@[simp] theorem powerCycle_tcfg (s : State) : (powerCycle s).tcfg = Vector.replicate 4 0 := rfl
@[simp] theorem powerCycle_bands (s : State) : (powerCycle s).bands = Vector.replicate 4 (Vector.replicate 8 ⟨0, 0, 0, 0, false, 0⟩) := rfl
@[simp] theorem powerCycle_mem (s : State) : (powerCycle s).mem = [] := rfl
@[simp] theorem powerCycle_powerOns (s : State) : (powerCycle s).powerOns = s.powerOns + 1 := rfl
@[simp] theorem powerCycle_waits (s : State) : (powerCycle s).waits = s.waits := rfl
@[simp] theorem powerCycle_agenda (s : State) : (powerCycle s).agenda = s.agenda := rfl
@[simp] theorem powerCycle_responses (s : State) : (powerCycle s).responses = s.responses := rfl

end Sys2Proof.Machine
end

