-- ==== Sys2Proof/Laws/Memory.lean ====
section
/-! SUPPORT. The buffer RAM: a read after a write, and the canonical form that every memory operation keeps. -/

namespace Sys2Proof.Machine

/-! ### Reading one byte after writing one -/

theorem Memory.get?_set (m : Memory) (a b : Nat) (v : Byte) :
    (m.set a v).get? b = if b = a then some v else m.get? b := by
  induction m with
  | nil => simp [Memory.set, Memory.get?, eq_comm]
  | cons c m ih =>
    obtain ⟨d, w⟩ := c
    simp only [Memory.set]
    split
    · by_cases h : a = b <;> simp [Memory.get?, h, eq_comm (a := b)]
    · split
      · rename_i h; subst h
        by_cases h : a = b <;> simp [Memory.get?, h, eq_comm (a := b)]
      · by_cases hd : d = b
        · subst hd; simp [Memory.get?]; omega
        · simp [Memory.get?, hd, ih]

@[simp] theorem Memory.get?_set_self (m : Memory) (a : Nat) (v : Byte) : (m.set a v).get? a = some v := by
  simp [Memory.get?_set]

theorem Memory.get?_set_of_ne (m : Memory) {a b : Nat} (v : Byte) (h : b ≠ a) :
    (m.set a v).get? b = m.get? b := by
  simp [Memory.get?_set, h]

/-! ### The canonical form -/

/-- A store lists the stored byte and otherwise what was listed. -/
theorem Memory.mem_set {m : Memory} {a : Nat} {v : Byte} {c : Host.Cell} (h : c ∈ m.set a v) :
    c = (a, v) ∨ c ∈ m := by
  induction m with
  | nil => simpa [Memory.set] using h
  | cons d m ih =>
    simp only [Memory.set] at h
    split at h
    · simpa using h
    · split at h
      · simp only [List.mem_cons] at h ⊢; tauto
      · simp only [List.mem_cons] at h ⊢; tauto

theorem Memory.set_wf {m : Memory} (a : Nat) (v : Byte) (h : m.wf) : (m.set a v).wf := by
  induction m with
  | nil => simp [Memory.set]
  | cons d m ih =>
    have hd := List.pairwise_cons.mp h
    simp only [Memory.set]
    split
    · rename_i hlt
      refine List.pairwise_cons.mpr ⟨fun c hc => ?_, h⟩
      rcases List.mem_cons.mp hc with rfl | hc
      · exact hlt
      · exact hlt.trans (hd.1 c hc)
    · split
      · rename_i heq
        exact List.pairwise_cons.mpr ⟨fun c hc => heq ▸ hd.1 c hc, hd.2⟩
      · refine List.pairwise_cons.mpr ⟨fun c hc => ?_, ih hd.2⟩
        rcases Memory.mem_set hc with rfl | hc
        · simp only; omega
        · exact hd.1 c hc

/-! ### The operations of the state over BUF -/

theorem bufByte_setBufByte (s : State) (k j : Nat) (v : Byte) :
    bufByte (setBufByte k v s) j = if j = k then v else bufByte s j := by
  by_cases h : j = k <;> simp [bufByte, Memory.get?_set, h]

theorem bufByte_setBufWord (s : State) (k j : Nat) (v : Word) :
    bufByte (setBufWord k v s) j =
      if k ≤ j ∧ j < k + 4 then v.extractLsb' (8 * (j - k)) 8 else bufByte s j := by
  simp only [bufByte, setBufWord_mem, setBufWord_powerOns, Memory.get?_set, Nat.add_left_cancel_iff]
  by_cases h : k ≤ j ∧ j < k + 4
  · obtain ⟨d, rfl⟩ := Nat.exists_eq_add_of_le h.1
    have hd : d < 4 := by omega
    interval_cases d <;> simp
  · rw [if_neg h]
    simp only [show j ≠ k + 3 by omega, show j ≠ k + 2 by omega, show j ≠ k + 1 by omega,
      show j ≠ k by omega, if_false]

/-- `bufByte` reads BUF and the number of the power-on, nothing else. -/
theorem bufByte_congr {s t : State} (hm : t.mem = s.mem) (hp : t.powerOns = s.powerOns) (k : Nat) :
    bufByte t k = bufByte s k := by
  simp [bufByte, hm, hp]

theorem setBufByte_wf {s : State} (k : Nat) (v : Byte) (h : s.mem.wf) : (setBufByte k v s).mem.wf :=
  Memory.set_wf _ _ h

theorem setBufWord_wf {s : State} (k : Nat) (v : Word) (h : s.mem.wf) : (setBufWord k v s).mem.wf :=
  Memory.set_wf _ _ (Memory.set_wf _ _ (Memory.set_wf _ _ (Memory.set_wf _ _ h)))

/-- A 32-bit store lists its four bytes and otherwise what was listed. -/
theorem mem_setBufWord {s : State} {k : Nat} {v : Word} {c : Host.Cell} (h : c ∈ (setBufWord k v s).mem) :
    (bufBase + k ≤ c.1 ∧ c.1 < bufBase + k + 4) ∨ c ∈ s.mem := by
  rw [setBufWord_mem] at h
  rcases Memory.mem_set h with rfl | h
  · left; constructor <;> simp only <;> omega
  rcases Memory.mem_set h with rfl | h
  · left; constructor <;> simp only <;> omega
  rcases Memory.mem_set h with rfl | h
  · left; constructor <;> simp only <;> omega
  rcases Memory.mem_set h with rfl | h
  · left; constructor <;> simp only <;> omega
  · exact .inr h

theorem resetBlock_wf {s : State} (h : s.mem.wf) : (resetBlock s).mem.wf := h

theorem powerCycle_wf (s : State) : (powerCycle s).mem.wf := List.Pairwise.nil

theorem reset_wf : State.reset.mem.wf := List.Pairwise.nil

end Sys2Proof.Machine
end

