-- ==== Sys2Proof/Laws/Ops.lean ====
section
/-! SUPPORT. What each shared operation can do, said once: the buffer reads, the write locks, the engine and the step. -/

namespace Sys2Proof.Machine

/-! ### Buffer reads -/

theorem readView_of_inRam {s : State} {js : List Nat} (h : ∀ j ∈ js, InRam s j) :
    readView s js = some (js.map (viewBit s)) := if_pos h

/-- Reading bits goes on exactly when each of them lies in a byte that exists. -/
theorem withBits_eq_next {s t : State} {js : List Nat} {go : List Bool → Result} :
    withBits s js go = .next t ↔ (∀ j ∈ js, InRam s j) ∧ go (js.map (viewBit s)) = .next t := by
  unfold withBits readView
  by_cases h : ∀ j ∈ js, InRam s j
  · rw [if_pos h]; exact ⟨fun e => ⟨h, e⟩, fun e => e.2⟩
  · rw [if_neg h]; exact ⟨nofun, fun e => absurd e.1 h⟩

theorem withBits_of_inRam {s : State} {js : List Nat} {go : List Bool → Result}
    (h : ∀ j ∈ js, InRam s j) : withBits s js go = go (js.map (viewBit s)) := by
  rw [withBits, readView_of_inRam h]

/-- A read of bits stops the machine exactly when one of them lies beyond BUF, or what follows stops it. -/
theorem withBits_eq_fault {s : State} {js : List Nat} {go : List Bool → Result} {f : Fault} :
    withBits s js go = .fault f ↔
      (¬ ∀ j ∈ js, InRam s j) ∧ f = .bufferOverrun ∨
      (∀ j ∈ js, InRam s j) ∧ go (js.map (viewBit s)) = .fault f := by
  unfold withBits readView
  by_cases h : ∀ j ∈ js, InRam s j
  · rw [if_pos h]
    exact ⟨fun e => .inr ⟨h, e⟩, fun e => e.elim (fun e => absurd h e.1) (·.2)⟩
  · rw [if_neg h]
    exact ⟨fun e => .inl ⟨h, by cases f; rfl⟩, fun e => e.elim (fun e => by rw [e.2]) (fun e => absurd e.1 h)⟩

/-! ### Assembly of bits -/

theorem assemble_append (xs ys : List Bool) :
    assemble (xs ++ ys) = assemble xs * 2 ^ ys.length + assemble ys := by
  induction ys using List.reverseRecOn with
  | nil => simp [assemble]
  | append_singleton ys b ih =>
    have snoc : ∀ l : List Bool, assemble (l ++ [b]) = 2 * assemble l + b.toNat := fun l => by
      simp [assemble, List.foldl_append]
    rw [← List.append_assoc, snoc, snoc, ih, List.length_append, List.length_singleton, pow_succ]
    ring

theorem assemble_cons (b : Bool) (bs : List Bool) :
    assemble (b :: bs) = b.toNat * 2 ^ bs.length + assemble bs := by
  have := assemble_append [b] bs
  simpa [assemble] using this

theorem assemble_lt (bs : List Bool) : assemble bs < 2 ^ bs.length := by
  induction bs with
  | nil => simp [assemble]
  | cons b bs ih =>
    rw [assemble_cons, List.length_cons, pow_succ]
    have : b.toNat ≤ 1 := b.toNat_le
    nlinarith [Nat.two_pow_pos bs.length]

/-! ### The CRC engine -/

/-- The shift register stays below 2^W. -/
theorem crcStep_lt {w p r : Nat} (hp : p < 2 ^ w) (b : Bool) : crcStep w p r b < 2 ^ w := by
  have hs : (r <<< 1) &&& crcMask w < 2 ^ w := by
    rw [crcMask, Nat.and_two_pow_sub_one_eq_mod]
    exact Nat.mod_lt _ (Nat.two_pow_pos w)
  unfold crcStep
  split
  · exact Nat.xor_lt_two_pow hs hp
  · exact hs

theorem and_crcMask (n w : Nat) : n &&& crcMask w = n % 2 ^ w := by
  rw [crcMask, Nat.and_two_pow_sub_one_eq_mod]

/-! ### The band search -/

/-- The search finds the first band that covers the value, or none does. -/
theorem searchBands_cases (raw : Nat) (bs : List Band) (k : Nat) :
    (∃ pre b post, bs = pre ++ b :: post ∧ (∀ c ∈ pre, ¬ c.Covers raw) ∧ b.Covers raw ∧
      searchBands raw bs k = ⟨.value, b.scale raw, b.unit, k + pre.length⟩) ∨
    ((∀ c ∈ bs, ¬ c.Covers raw) ∧ searchBands raw bs k = ⟨.noBand, 0, 0, 0⟩) := by
  induction bs generalizing k with
  | nil => exact .inr ⟨by simp, rfl⟩
  | cons b bs ih =>
    by_cases h : b.Covers raw
    · exact .inl ⟨[], b, bs, rfl, by simp, h, by simp [searchBands, h]⟩
    · have hs : searchBands raw (b :: bs) k = searchBands raw bs (k + 1) := if_neg h
      rcases ih (k + 1) with ⟨pre, c, post, rfl, hpre, hc, he⟩ | ⟨hn, he⟩
      · refine .inl ⟨b :: pre, c, post, rfl, ?_, hc, ?_⟩
        · intro d hd
          rcases List.mem_cons.mp hd with rfl | hd
          · exact h
          · exact hpre d hd
        · rw [hs, he, List.length_cons]; congr 1; omega
      · refine .inr ⟨?_, hs.trans he⟩
        intro d hd
        rcases List.mem_cons.mp hd with rfl | hd
        · exact h
        · exact hn d hd

/-! ### Write locks -/

theorem storeIdle_busy {f : State → State} {s : State} (h : s.busy = true) :
    storeIdle f s = dropWrite s := if_pos h

theorem storeIdle_idle {f : State → State} {s : State} (h : s.busy = false) : storeIdle f s = f s := by
  simp [storeIdle, h]

theorem storeOpen_locked {f : State → State} {s : State} (h : s.isSealed = true ∨ s.busy = true) :
    storeOpen f s = dropWrite s := by
  rcases h with h | h <;> simp [storeOpen, h]

theorem storeOpen_open {f : State → State} {s : State} (hs : s.isSealed = false) (hb : s.busy = false) :
    storeOpen f s = f s := by
  simp [storeOpen, hs, hb]

/-! ### The engine and the step -/

/-- Everything one engine step can do. -/
theorem engineStep_cases (s : State) :
    (s.pending = none ∧ engineStep s = .next s) ∨
    (∃ w n, s.pending = some w ∧ s.progress = n + 1 ∧ engineStep s = .next { s with progress := n }) ∨
    (∃ w, s.pending = some w ∧ s.progress = 0 ∧ engineStep s = runWord w s) := by
  cases hp : s.pending with
  | none => exact .inl ⟨rfl, by simp [engineStep, hp]⟩
  | some w =>
    cases hn : s.progress with
    | zero => exact .inr (.inr ⟨w, rfl, rfl, by simp [engineStep, hp, hn]⟩)
    | succ n => exact .inr (.inl ⟨w, n, rfl, rfl, by simp [engineStep, hp, hn]⟩)

/-- Everything one step can do: the turn it serves and the state it serves it on. -/
theorem step_cases (s : State) :
    (s.agenda = [] ∧ step s = engineStep s) ∨
    ∃ u rest, s.agenda = u :: rest ∧
      ((u = .engine ∧ step s = engineStep { s with agenda := rest }) ∨
       (∃ a, u = .host a ∧ step s = .next (serve a { s with agenda := rest })) ∨
       (u = .resetInput ∧ step s = .next (resetBlock { s with agenda := rest })) ∨
       (u = .powerUp ∧ step s = .next (powerCycle { s with agenda := rest }))) := by
  unfold step
  split
  · exact .inl ⟨by assumption, rfl⟩
  · exact .inr ⟨_, _, by assumption, .inl ⟨rfl, rfl⟩⟩
  · exact .inr ⟨_, _, by assumption, .inr (.inl ⟨_, rfl, rfl⟩)⟩
  · exact .inr ⟨_, _, by assumption, .inr (.inr (.inl ⟨rfl, rfl⟩))⟩
  · exact .inr ⟨_, _, by assumption, .inr (.inr (.inr ⟨rfl, rfl⟩))⟩

/-- Everything the completing step can do. -/
theorem runWord_cases (w : Word) (s : State) :
    (∃ i, decode w = .ok i ∧ runWord w s = exec i s) ∨
    (∃ e, decode w = .error e ∧ runWord w s = raiseError .illegal s) := by
  cases h : decode w with
  | ok i => exact .inl ⟨i, rfl, by simp [runWord, h]⟩
  | error e => exact .inr ⟨e, rfl, by simp [runWord, h]⟩

end Sys2Proof.Machine
end

