-- ==== Sys2Proof/Laws/Bus.lean ====
section
/-! SUPPORT. What a bus access can do, said once: every effect of a write, and the frame of a read. -/

namespace Sys2Proof.Machine

/-- Everything a write of `v` to the target `t` can make of `s`. -/
inductive WriteEffect (t : Target) (v : Word) (s : State) : State → Prop
  /-- read-only, reserved or a bus error -/
  | ignored : WriteEffect t v s s
  /-- locked -/
  | dropped (h : s.isSealed = true ∨ s.busy = true) : WriteEffect t v s (dropWrite s)
  /-- CTRL with 1 in SRST -/
  | softReset (h : t = .reg .ctrl) (hv : v.getLsbD 1 = true) : WriteEffect t v s (resetBlock s)
  /-- CTRL with 0 in SRST -/
  | enable (h : t = .reg .ctrl) (hv : v.getLsbD 1 = false) : WriteEffect t v s { s with ie := v.getLsbD 0 }
  /-- STATUS -/
  | clear (h : t = .reg .status) : WriteEffect t v s (clearStatus v s)
  /-- CMD while running -/
  | overflow (h : t = .reg .cmd) (hb : s.busy = true) : WriteEffect t v s { s with ovf := true }
  /-- CMD while idle -/
  | issued (h : t = .reg .cmd) (hb : s.busy = false) : WriteEffect t v s (issue v s)
  /-- an operand register or table while idle -/
  | operand (hb : s.busy = false) (arg0 arg1 : Word) (segCount : BitVec 5) (offs : Vector Word 64)
      (seg : Vector Segment 16) (alg : Vector AlgSlot 4) (tcfg : Vector (BitVec 5) 4)
      (bands : Vector (Vector Band 8) 4) :
      WriteEffect t v s { s with
        arg0 := arg0, arg1 := arg1, segCount := segCount, offs := offs, seg := seg, alg := alg,
        tcfg := tcfg, bands := bands }
  /-- BUF_LEN while open and idle -/
  | length (hb : s.busy = false) (hs : s.isSealed = false) : WriteEffect t v s { s with bufLen := v }
  /-- one byte of BUF while open and idle -/
  | byte (hb : s.busy = false) (hs : s.isSealed = false) (k : Nat) (h : t = .bufByte k) :
      WriteEffect t v s (setBufByte k (v.extractLsb' 0 8) s)
  /-- four bytes of BUF while open and idle -/
  | word (hb : s.busy = false) (hs : s.isSealed = false) (k : Nat) (h : t = .bufWord k) :
      WriteEffect t v s (setBufWord k v s)

/-- A store that is dropped while BUSY = 1. -/
theorem storeIdle_effect {t : Target} {v : Word} {s : State} {f : State → State}
    (h : s.busy = false → WriteEffect t v s (f s)) : WriteEffect t v s (storeIdle f s) := by
  rcases Bool.eq_false_or_eq_true s.busy with hb | hb
  · rw [storeIdle_busy hb]; exact .dropped (.inr hb)
  · rw [storeIdle_idle hb]; exact h hb

/-- A store that is dropped while SEALED = 1 or BUSY = 1. -/
theorem storeOpen_effect {t : Target} {v : Word} {s : State} {f : State → State}
    (h : s.busy = false → s.isSealed = false → WriteEffect t v s (f s)) :
    WriteEffect t v s (storeOpen f s) := by
  by_cases hl : s.isSealed = true ∨ s.busy = true
  · rw [storeOpen_locked hl]; exact .dropped hl
  · have hs : s.isSealed = false := by simpa using mt Or.inl hl
    have hb : s.busy = false := by simpa using mt Or.inr hl
    rw [storeOpen_open hs hb]; exact h hb hs

/-- What a write does to its target is one of these effects. -/
theorem writeTarget_effect (t : Target) (v : Word) (s : State) : WriteEffect t v s (writeTarget t v s) := by
  cases t with
  | reserved | busError => exact .ignored
  | bufByte k => exact storeOpen_effect fun hb hs => .byte hb hs k rfl
  | bufWord k => exact storeOpen_effect fun hb hs => .word hb hs k rfl
  | reg r =>
    cases r with
    | id | version | param | vbase | vlen | resLo | resHi | resAux => exact .ignored
    | ctrl =>
      simp only [writeTarget, writeReg, writeCtrl]
      split
      · exact .softReset rfl (by assumption)
      · exact .enable rfl (by simp_all)
    | status => exact .clear rfl
    | cmd =>
      simp only [writeTarget, writeReg, writeCmd]
      split
      · exact .overflow rfl (by assumption)
      · exact .issued rfl (by simp_all)
    | bufLen =>
      simp only [writeTarget, writeReg]
      exact storeOpen_effect fun hb hs => .length hb hs
    | arg0 | arg1 | segCnt | offs k | segStart k | segLen k | algPoly a | algInit a | algXorout a | algCfg a
    | tcfg k | bandRange k b | bandMult k b | bandOffset k b | bandFlags k b =>
      simp only [writeTarget, writeReg]
      exact storeIdle_effect fun hb => .operand hb _ _ _ _ _ _ _ _

/-- A read changes nothing but the bus's answer (20 R66). -/
theorem serve_read (size : Size) (addr : BitVec 16) (s : State) :
    serve (.read size addr) s =
      respond (readTarget (target s.bufBytes size addr) s) (target s.bufBytes size addr) s := rfl

/-- A write is what its target does, and an answer. -/
theorem serve_write (size : Size) (addr : BitVec 16) (v : Word) (s : State) :
    serve (.write size addr v) s =
      respond 0 (target s.bufBytes size addr) (writeTarget (target s.bufBytes size addr) v s) := rfl

/-! ### The targets -/

/-- An 8-bit target lies in BUF. -/
theorem target_bufByte {n k : Nat} {size : Size} {addr : BitVec 16} (h : target n size addr = .bufByte k) :
    size = .byte ∧ addr.toNat = bufBase + k ∧ k < n := by
  cases size with
  | half => simp [target] at h
  | byte =>
    simp only [target] at h
    split at h
    · rename_i hr
      obtain rfl := Target.bufByte.inj h
      exact ⟨rfl, by omega, by omega⟩
    · cases h
  | word =>
    simp only [target] at h
    split_ifs at h
    split at h <;> cases h

/-- A 32-bit target in BUF is aligned and lies in BUF whole. -/
theorem target_bufWord {n k : Nat} {size : Size} {addr : BitVec 16} (h : target n size addr = .bufWord k) :
    size = .word ∧ addr.toNat = bufBase + k ∧ k % 4 = 0 ∧ k + 4 ≤ n := by
  cases size with
  | half => simp [target] at h
  | byte => simp only [target] at h; split at h <;> cases h
  | word =>
    simp only [target] at h
    split_ifs at h with ha hb hw
    · split at h <;> cases h
    · obtain rfl := Target.bufWord.inj h
      refine ⟨rfl, ?_, ?_, ?_⟩ <;> simp only [bufBase] at * <;> omega

/-- A register is reached by 32-bit accesses only. -/
theorem target_reg {n : Nat} {r : Reg} {size : Size} {addr : BitVec 16} (h : target n size addr = .reg r) :
    size = .word ∧ addr.toNat % 4 = 0 ∧ locate addr.toNat = some r := by
  cases size with
  | half => simp [target] at h
  | byte => simp only [target] at h; split at h <;> cases h
  | word =>
    simp only [target] at h
    split_ifs at h with ha hb
    split at h
    · rename_i hl
      obtain rfl := Target.reg.inj h
      exact ⟨rfl, by omega, hl⟩
    · cases h

/-! ### Every case of an access -/

/-- Where an 8-bit access goes. -/
theorem target_byte_cases (n : Nat) (addr : BitVec 16) :
    (0x1000 ≤ addr.toNat ∧ addr.toNat < 0x1000 + n ∧ target n .byte addr = .bufByte (addr.toNat - 0x1000)) ∨
    ((addr.toNat < 0x1000 ∨ 0x1000 + n ≤ addr.toNat) ∧ target n .byte addr = .busError) := by
  have hb : bufBase = 0x1000 := rfl
  by_cases h : bufBase ≤ addr.toNat ∧ addr.toNat < bufBase + n
  · exact .inl ⟨by omega, by omega, by simp only [target]; rw [if_pos h, hb]⟩
  · exact .inr ⟨by omega, by simp only [target]; rw [if_neg h]⟩

/-- Where a 32-bit access goes. -/
theorem target_word_cases (n : Nat) (addr : BitVec 16) :
    (addr.toNat % 4 ≠ 0 ∧ target n .word addr = .busError) ∨
    (addr.toNat % 4 = 0 ∧ addr.toNat < 0x1000 ∧
      ((∃ r, locate addr.toNat = some r ∧ target n .word addr = .reg r) ∨
        locate addr.toNat = none ∧ target n .word addr = .reserved)) ∨
    (addr.toNat % 4 = 0 ∧ 0x1000 ≤ addr.toNat ∧ addr.toNat + 4 ≤ 0x1000 + n ∧
      target n .word addr = .bufWord (addr.toNat - 0x1000)) ∨
    (addr.toNat % 4 = 0 ∧ 0x1000 ≤ addr.toNat ∧ addr.toNat < 0x1000 + n ∧ 0x1000 + n < addr.toNat + 4 ∧
      target n .word addr = .busError) ∨
    (addr.toNat % 4 = 0 ∧ 0x1000 + n ≤ addr.toNat ∧ target n .word addr = .reserved) := by
  have hb : bufBase = 0x1000 := rfl
  by_cases h1 : addr.toNat % 4 ≠ 0
  · exact .inl ⟨h1, by simp only [target]; rw [if_pos h1]⟩
  right
  by_cases h2 : addr.toNat < bufBase
  · left
    refine ⟨by omega, by omega, ?_⟩
    cases hl : locate addr.toNat with
    | none => exact .inr ⟨rfl, by simp only [target]; rw [if_neg h1, if_pos h2, hl]⟩
    | some r => exact .inl ⟨r, rfl, by simp only [target]; rw [if_neg h1, if_pos h2, hl]⟩
  right
  by_cases h3 : addr.toNat + 4 ≤ bufBase + n
  · exact .inl ⟨by omega, by omega, by omega, by simp only [target]; rw [if_neg h1, if_neg h2, if_pos h3, hb]⟩
  right
  by_cases h4 : addr.toNat < bufBase + n
  · exact .inl ⟨by omega, by omega, by omega, by omega, by
      simp only [target]; rw [if_neg h1, if_neg h2, if_neg h3, if_pos h4]⟩
  · exact .inr ⟨by omega, by omega, by simp only [target]; rw [if_neg h1, if_neg h2, if_neg h3, if_neg h4]⟩

end Sys2Proof.Machine
end

