-- ==== Sys2Proof/Laws/Exec.lean ====
section
/-! SUPPORT. What a command can do, said once: every way in which `exec` gives a next state. -/

namespace Sys2Proof.Machine

/-- Every way in which a command completes: the command, what it saw, and the state it leaves. -/
inductive CommandEffect (i : Instr) (s : State) : State → Prop
  /-- an error: nothing but the completion fields -/
  | failed (e : ErrCode) (he : e ≠ .ok) : CommandEffect i s (complete e false s)
  /-- a VERIFY that found a validity -/
  | cachedVerify (a : Nat) (hi : i = .verify a) (hs : s.isSealed = true) (hv : s.validity ≠ .none) :
      CommandEffect i s (complete .ok true s)
  /-- NOP -/
  | noEffect (hi : i = .nop) : CommandEffect i s (complete .ok false s)
  /-- SEAL -/
  | sealedBuffer (hi : i = .sealBuf) (hs : s.isSealed = false) (hl : s.bufLen.toNat ≤ 8 * s.bufBytes) :
      CommandEffect i s (complete .ok false (setView 0 s.bufLen { s with isSealed := true, validity := .none }))
  /-- RELEASE -/
  | released (hi : i = .release) (hs : s.isSealed = true) :
      CommandEffect i s (complete .ok false (setView 0 0 { s with isSealed := false, validity := .none }))
  /-- SLICE -/
  | sliced (hi : i = .slice) (hs : s.isSealed = true) (h1 : s.arg0.toNat ≤ s.arg1.toNat)
      (h2 : s.arg1.toNat ≤ s.vlen.toNat) :
      CommandEffect i s (complete .ok false (setView (s.vbase + s.arg0) (s.arg1 - s.arg0) s))
  /-- UNSLICE -/
  | unsliced (hi : i = .unslice) (hs : s.isSealed = true) :
      CommandEffect i s (complete .ok false (setView 0 s.bufLen s))
  /-- a command that writes the results and nothing else: BIT, UINT, FIELD, a codec, CRCCALC -/
  | result (hi : i = .bit ∨ (∃ n, i = .uint n) ∨ (∃ w, i = .field w) ∨ (∃ t, i = .timer t) ∨ i = .lat ∨
      i = .lon ∨ (∃ f, i = .scale f) ∨ ∃ a, i = .crccalc a) (lo hi' aux : Word) :
      CommandEffect i s (complete .ok false (setResult lo hi' aux s))
  /-- the first VERIFY of a sealed phase that completes without error -/
  | verified (a : Nat) (hi : i = .verify a) (hs : s.isSealed = true) (hn : s.validity = .none) (v : Validity)
      (hv : v ≠ .none) (lo hi' aux : Word) :
      CommandEffect i s (complete .ok false (setResult lo hi' aux { s with validity := v }))

theorem verdict_ne_none (c r : Nat) : verdict c r ≠ .none := by
  unfold verdict; split <;> simp

theorem protError_ne_ok {s : State} {e : ErrCode} (h : protError s = some e) : e ≠ .ok := by
  unfold protError at h
  split_ifs at h <;> · injection h with h; subst h; simp

theorem raiseError_effect {i : Instr} {s t : State} {e : ErrCode} (h : raiseError e s = .next t)
    (he : e ≠ .ok) : CommandEffect i s t := by
  obtain rfl := Host.Outcome.next.inj h
  exact .failed e he

/-- A next state of a command is one of these effects. -/
theorem exec_effect {i : Instr} {s t : State} (h : exec i s = .next t) : CommandEffect i s t := by
  cases i with
  | nop =>
    obtain rfl := Host.Outcome.next.inj h
    exact .noEffect rfl
  | sealBuf =>
    simp only [exec, execSeal] at h
    split_ifs at h with h1 h2
    · exact raiseError_effect h nofun
    · exact raiseError_effect h nofun
    · obtain rfl := Host.Outcome.next.inj h
      exact .sealedBuffer rfl (by simpa using h1) (by omega)
  | release =>
    simp only [exec, execRelease] at h
    split_ifs at h with h1
    · exact raiseError_effect h nofun
    · obtain rfl := Host.Outcome.next.inj h
      exact .released rfl (by simpa using h1)
  | bit =>
    simp only [exec, execBit] at h
    split_ifs at h with h1 h2
    · exact raiseError_effect h nofun
    · exact raiseError_effect h nofun
    · obtain rfl := Host.Outcome.next.inj (withBits_eq_next.mp h).2
      exact .result (by simp) _ _ _
  | uint n =>
    simp only [exec, execUint] at h
    split_ifs at h with h1 h2 h3
    · exact raiseError_effect h nofun
    · exact raiseError_effect h nofun
    · exact raiseError_effect h nofun
    · obtain rfl := Host.Outcome.next.inj (withBits_eq_next.mp h).2
      exact .result (by simp) _ _ _
  | field w =>
    simp only [exec, execField] at h
    split_ifs at h with h1 h2 h3
    · exact raiseError_effect h nofun
    · exact raiseError_effect h nofun
    · exact raiseError_effect h nofun
    · obtain rfl := Host.Outcome.next.inj (withBits_eq_next.mp h).2
      exact .result (by simp) _ _ _
  | slice =>
    simp only [exec, execSlice] at h
    split_ifs at h with h1 h2 h3
    · exact raiseError_effect h nofun
    · exact raiseError_effect h nofun
    · exact raiseError_effect h nofun
    · obtain rfl := Host.Outcome.next.inj h
      exact .sliced rfl (by simpa using h1) (by omega) (by omega)
  | unslice =>
    simp only [exec, execUnslice] at h
    split_ifs at h with h1
    · exact raiseError_effect h nofun
    · obtain rfl := Host.Outcome.next.inj h
      exact .unsliced rfl (by simpa using h1)
  | timer t' =>
    simp only [exec, execTimer] at h
    split at h
    · split_ifs at h with h1 h2
      · exact raiseError_effect h nofun
      · exact raiseError_effect h nofun
      · obtain rfl := Host.Outcome.next.inj h
        exact .result (by simp) _ _ _
    · exact raiseError_effect h nofun
  | lat =>
    obtain rfl := Host.Outcome.next.inj h
    exact .result (by simp) _ _ _
  | lon =>
    obtain rfl := Host.Outcome.next.inj h
    exact .result (by simp) _ _ _
  | scale f =>
    simp only [exec, execScale] at h
    split at h
    · exact raiseError_effect h nofun
    · obtain rfl := Host.Outcome.next.inj h
      exact .result (by simp) _ _ _
  | verify a =>
    simp only [exec, execVerify] at h
    by_cases h1 : s.isSealed = false
    · rw [if_pos h1] at h
      exact raiseError_effect h nofun
    rw [if_neg h1] at h
    by_cases h2 : s.validity ≠ .none
    · rw [if_pos h2] at h
      obtain rfl := Host.Outcome.next.inj h
      exact .cachedVerify a rfl (by simpa using h1) h2
    rw [if_neg h2] at h
    split at h
    · exact raiseError_effect h nofun
    · split at h
      · exact raiseError_effect h nofun
      · split at h
        · exact raiseError_effect h (protError_ne_ok (by assumption))
        · split at h
          · exact raiseError_effect h nofun
          · obtain rfl := Host.Outcome.next.inj (withBits_eq_next.mp (withBits_eq_next.mp h).2).2
            exact .verified a rfl (by simpa using h1) (by simpa using h2) _ (verdict_ne_none _ _) _ _ _
  | crccalc a =>
    simp only [exec, execCrccalc] at h
    by_cases h1 : s.isSealed = false
    · rw [if_pos h1] at h
      exact raiseError_effect h nofun
    rw [if_neg h1] at h
    split at h
    · exact raiseError_effect h nofun
    · split at h
      · exact raiseError_effect h nofun
      · split at h
        · exact raiseError_effect h (protError_ne_ok (by assumption))
        · obtain rfl := Host.Outcome.next.inj (withBits_eq_next.mp h).2
          exact .result (by simp) _ _ _

end Sys2Proof.Machine
end

