-- ==== Sys2Proof/Laws/PerInstr.lean ====
section
/-! SUPPORT. The family EncodingShape: the three fields of every command's word (30 R80, R81). -/

namespace Sys2Proof.Laws

/-- The word of a well-formed command has OPC and SEL of the command and RSV = 0 (30 R80). -/
def EncodingShape.Statement (i : Instr) : Prop :=
  i.WellFormed → opcField (encode i) = i.opcode ∧ selField (encode i) = i.sel ∧ rsvField (encode i) = 0

/-- The fields of a word put together from an opcode and a selector (30 R80). -/
theorem fields_of_word (opc sel : Nat) (ho : opc < 256) (hs : sel < 256) :
    let w : Word := (0#16 ++ BitVec.ofNat 8 sel) ++ BitVec.ofNat 8 opc
    opcField w = opc ∧ selField w = sel ∧ rsvField w = 0 := by
  have h1 : ((0#16 ++ BitVec.ofNat 8 sel) ++ BitVec.ofNat 8 opc : Word).toNat = sel * 256 + opc := by
    rw [BitVec.toNat_append, BitVec.toNat_append, BitVec.toNat_ofNat, BitVec.toNat_ofNat, BitVec.toNat_ofNat,
      Nat.mod_eq_of_lt (b := 2 ^ 8) hs, Nat.mod_eq_of_lt (b := 2 ^ 8) ho, Nat.zero_mod, Nat.zero_shiftLeft,
      Nat.zero_or, ← Nat.shiftLeft_add_eq_or_of_lt (show opc < 2 ^ 8 from ho), Nat.shiftLeft_eq]
  refine ⟨?_, ?_, ?_⟩ <;>
    simp only [opcField, selField, rsvField, BitVec.extractLsb'_toNat, h1, Nat.shiftRight_eq_div_pow] <;> omega

theorem EncodingShape.nop : EncodingShape.Statement .nop := fun h => fields_of_word _ _ (by decide) h
theorem EncodingShape.sealBuf : EncodingShape.Statement .sealBuf := fun h => fields_of_word _ _ (by decide) h
theorem EncodingShape.release : EncodingShape.Statement .release := fun h => fields_of_word _ _ (by decide) h
theorem EncodingShape.bit : EncodingShape.Statement .bit := fun h => fields_of_word _ _ (by decide) h
theorem EncodingShape.uint (n : Nat) : EncodingShape.Statement (.uint n) :=
  fun h => fields_of_word 0x11 n (by decide) h
theorem EncodingShape.field (w : Nat) : EncodingShape.Statement (.field w) :=
  fun h => fields_of_word 0x12 w (by decide) h
theorem EncodingShape.slice : EncodingShape.Statement .slice := fun h => fields_of_word _ _ (by decide) h
theorem EncodingShape.unslice : EncodingShape.Statement .unslice := fun h => fields_of_word _ _ (by decide) h
theorem EncodingShape.timer (t : Nat) : EncodingShape.Statement (.timer t) :=
  fun h => fields_of_word 0x20 t (by decide) h
theorem EncodingShape.lat : EncodingShape.Statement .lat := fun h => fields_of_word _ _ (by decide) h
theorem EncodingShape.lon : EncodingShape.Statement .lon := fun h => fields_of_word _ _ (by decide) h
theorem EncodingShape.scale (f : Nat) : EncodingShape.Statement (.scale f) :=
  fun h => fields_of_word 0x23 f (by decide) h
theorem EncodingShape.verify (a : Nat) : EncodingShape.Statement (.verify a) :=
  fun h => fields_of_word 0x30 a (by decide) h
theorem EncodingShape.crccalc (a : Nat) : EncodingShape.Statement (.crccalc a) :=
  fun h => fields_of_word 0x31 a (by decide) h

end Sys2Proof.Laws
end

