-- ==== Sys2Proof/Tests/Slice0.lean ====
section
/-! SUPPORT. Tests: the well-formedness smoke, the words of the opcode map, the vectors of spec/95_test_vectors.md, and
one witness per statement that has hypotheses. Expected results are the spec's (95, or the rule named). -/

namespace Sys2Proof.Tests

open Sys2Proof.Machine Sys2Proof.Safety

/-! ### Well-formedness: an 8-bit selector, no more (30 R80) -/

theorem test_uint_selector_too_wide : ¬ (Instr.uint 256).WellFormed := by decide
theorem test_field_selector_too_wide : ¬ (Instr.field 256).WellFormed := by decide
theorem test_timer_selector_too_wide : ¬ (Instr.timer 256).WellFormed := by decide
theorem test_scale_selector_too_wide : ¬ (Instr.scale 256).WellFormed := by decide
theorem test_verify_selector_too_wide : ¬ (Instr.verify 256).WellFormed := by decide
theorem test_crccalc_selector_too_wide : ¬ (Instr.crccalc 256).WellFormed := by decide

/-! ### Decoding: RSV, SEL and OPC written out (30 R80, R81) -/

/-- A command word from its three fields, high to low. -/
def word (rsv : BitVec 16) (sel opc : BitVec 8) : Word := rsv ++ sel ++ opc

theorem test_decode_nop : decode (word 0b0000000000000000 0b00000000 0b00000000) = .ok .nop := by decide
theorem test_decode_seal : decode (word 0b0000000000000000 0b00000000 0b00000001) = .ok .sealBuf := by decide
theorem test_decode_release : decode (word 0b0000000000000000 0b00000000 0b00000010) = .ok .release := by decide
theorem test_decode_bit : decode (word 0b0000000000000000 0b00000000 0b00010000) = .ok .bit := by decide
theorem test_decode_uint : decode (word 0b0000000000000000 0b01000001 0b00010001) = .ok (.uint 65) := by decide
theorem test_decode_field : decode (word 0b0000000000000000 0b00001000 0b00010010) = .ok (.field 8) := by decide
theorem test_decode_slice : decode (word 0b0000000000000000 0b00000000 0b00010011) = .ok .slice := by decide
theorem test_decode_unslice : decode (word 0b0000000000000000 0b00000000 0b00010100) = .ok .unslice := by decide
theorem test_decode_timer : decode (word 0b0000000000000000 0b00000011 0b00100000) = .ok (.timer 3) := by decide
theorem test_decode_lat : decode (word 0b0000000000000000 0b00000000 0b00100001) = .ok .lat := by decide
theorem test_decode_lon : decode (word 0b0000000000000000 0b00000000 0b00100010) = .ok .lon := by decide
theorem test_decode_scale : decode (word 0b0000000000000000 0b00000010 0b00100011) = .ok (.scale 2) := by decide
theorem test_decode_verify : decode (word 0b0000000000000000 0b00000001 0b00110000) = .ok (.verify 1) := by decide
theorem test_decode_crccalc : decode (word 0b0000000000000000 0b11111111 0b00110001) = .ok (.crccalc 255) := by decide

/-- V-30-1, V-30-2, V-30-3. -/
theorem test_decode_refuses :
    decode 0x00010000 = .error .reservedNotZero ∧ decode 0x00000100 = .error .selectorNotZero ∧
    decode 0x00000103 = .error .unassignedOpcode := by decide

theorem test_table_word : decodeTableWord 32 0x00004011 = some (.uint 64) ∧ decodeTableWord 32 0x103 = none := by decide

/-! ### States and views of a result -/

/-- The bytes at the consecutive offsets from `a`. -/
def cells : List Byte → Nat → Memory
  | [], _ => []
  | b :: bs, a => (a, b) :: cells bs (a + 1)

/-- The conventions of 95: BUF holds the bytes, BUF_LEN is their bits, unsealed. -/
def loaded (bytes : List Byte) : State :=
  { State.reset with mem := cells bytes bufBase, bufLen := BitVec.ofNat 32 (8 * bytes.length) }

/-- "Sealed over" the bytes (95). -/
def sealedOver (bytes : List Byte) : State :=
  { loaded bytes with isSealed := true, vlen := BitVec.ofNat 32 (8 * bytes.length) }

/-- Sealed over 56 A0 (95, 2.2). -/
def heading : State := sealedOver [0x56, 0xA0]

/-- The slots of 95, 2.4, and one segment (start, len). -/
def checked (bytes : List Byte) (start len : Word) : State :=
  { sealedOver bytes with
    alg := #v[⟨0x1021, 0, 0, 16⟩, ⟨1, 0, 0, 1⟩, ⟨0x04C11DB7, 0xFFFFFFFF, 0xFFFFFFFF, 32⟩, ⟨0x07, 0, 0, 8⟩]
    segCount := 1
    seg := (Vector.replicate 16 ⟨0, 0⟩).set 0 ⟨start, len⟩ }

/-- Table 0 is EMERG-EX and table 3 is test table 3 (95, 2.3). -/
def timed (raw : Word) : State :=
  { State.reset with
    arg0 := raw
    tcfg := #v[9, 0, 17, 16]
    bands := #v[
      ((Vector.replicate 8 ⟨0, 0, 0, 0, false, 0⟩).set 0 ⟨1, 31, 1, 0, true, 0⟩).set 1 ⟨32, 510, 1, 0xFFE1, true, 1⟩,
      Vector.replicate 8 ⟨0, 0, 0, 0, false, 0⟩,
      Vector.replicate 8 ⟨0, 0, 0, 0, false, 0⟩,
      (Vector.replicate 8 ⟨0, 0, 0, 0, false, 0⟩).set 0 ⟨1, 65534, 0x8000, 0x8000, true, 0⟩] }

/-- ERR, RES_LO, RES_HI and RES_AUX of a next state. -/
def outcome : Result → Option (ErrCode × Word × Word × Word)
  | .next t => some (t.err, t.resLo, t.resHi, t.resAux)
  | _ => none

/-- ERR, VBASE, VLEN and STATUS of a next state. -/
def viewOf : Result → Option (ErrCode × Word × Word × Word)
  | .next t => some (t.err, t.vbase, t.vlen, statusWord t)
  | _ => none

/-- The result is the next state `t`. -/
def goesTo (r : Result) (t : State) : Bool :=
  match r with
  | .next u => decide (u = t)
  | _ => false

theorem of_goesTo {r : Result} {t : State} (h : goesTo r t = true) : r = .next t := by
  cases r with
  | next u => exact congrArg _ (of_decide_eq_true h)
  | fault f => cases h
  | refused f => cases h

/-! ### The vectors of 95_test_vectors.md -/

/-- V-30-8. -/
theorem test_nop : viewOf (exec .nop heading) = some (.ok, 0, 16, 0x0000000A) := by decide
/-- V-40-1. -/
theorem test_seal : viewOf (exec .sealBuf (loaded [0x56, 0xA0])) = some (.ok, 0, 16, 0x0000000A) := by decide
/-- V-40-31. -/
theorem test_seal_too_long :
    viewOf (exec .sealBuf { loaded [] with bufLen := 2049 }) = some (.badArg, 0, 0, 0x00000302) := by decide
/-- V-40-28. -/
theorem test_release : viewOf (exec .release heading) = some (.ok, 0, 0, 0x00000002) := by decide
/-- V-40-29. -/
theorem test_release_unsealed : viewOf (exec .release State.reset) = some (.state, 0, 0, 0x00000502) := by decide
/-- V-40-4. -/
theorem test_bit_8 : outcome (exec .bit { heading with arg0 := 8 }) = some (.ok, 1, 0, 1) := by decide
/-- V-40-6: index = length. -/
theorem test_bit_16 : outcome (exec .bit { heading with arg0 := 16 }) = some (.bounds, 0, 0, 0) := by decide
/-- V-40-8: the bit named first is most significant. -/
theorem test_uint : outcome (exec (.uint 2) { heading with offs := heading.offs.set 1 8 }) = some (.ok, 1, 0, 2) := by
  decide
/-- V-40-12: RES_* keep the previous values. -/
theorem test_uint_bounds :
    outcome (exec (.uint 1) { heading with offs := heading.offs.set 0 16, resLo := 7, resHi := 8, resAux := 9 }) =
      some (.bounds, 7, 8, 9) := by decide
/-- V-40-16. -/
theorem test_field : outcome (exec (.field 8) { heading with arg0 := 4 }) = some (.ok, 0x6A, 0, 8) := by decide
/-- V-40-20: no 32-bit wrap. -/
theorem test_field_wrap :
    outcome (exec (.field 2) { heading with arg0 := 0xFFFFFFFF }) = some (.bounds, 0, 0, 0) := by decide
/-- V-40-23: a slice of the view 4..12. -/
theorem test_slice_nested :
    viewOf (exec .slice { heading with vbase := 4, vlen := 8, arg0 := 2, arg1 := 6 }) =
      some (.ok, 6, 4, 0x0000000A) := by decide
/-- V-40-25. -/
theorem test_slice_bounds :
    viewOf (exec .slice { heading with vbase := 6, vlen := 4, arg0 := 0, arg1 := 5 }) =
      some (.bounds, 6, 4, 0x0000010A) := by decide
/-- V-40-26. -/
theorem test_unslice : viewOf (exec .unslice { heading with vbase := 6, vlen := 4 }) = some (.ok, 0, 16, 0x0000000A) := by
  decide
/-- V-40-30. -/
theorem test_unslice_unsealed : viewOf (exec .unslice State.reset) = some (.notSealed, 0, 0, 0x00000402) := by decide
/-- V-L1-1 to V-L1-4, the check of 41 R142 on EMERG-EX: INTERNAL, INFINITY, 5 SECS of band 0, 10 MINS of band 1. -/
theorem test_timer_emergency :
    MeetsEmergencyVectors (timed 0) ∧
    outcome (exec (.timer 0) (timed 0)) = some (.ok, 0, 0, 1) ∧
    outcome (exec (.timer 0) (timed 511)) = some (.ok, 0, 0, 2) ∧
    outcome (exec (.timer 0) (timed 5)) = some (.ok, 5, 0, 0) ∧
    outcome (exec (.timer 0) (timed 41)) = some (.ok, 10, 1, 4) := by decide
/-- 95, 2.3, test table 3: a negative multiplier and offset. -/
theorem test_timer_negative : outcome (exec (.timer 3) (timed 1)) = some (.ok, 0xFFFF0000, 0, 0) := by decide
/-- V-41-9. -/
theorem test_lat : outcome (exec .lat { State.reset with arg0 := 0xC0000000 }) = some (.ok, 0xC0000000, 0xFFFFFFFF, 1) := by
  decide
/-- V-41-11: the hemisphere bit of a negative zero is kept. -/
theorem test_lat_zero : outcome (exec .lat { State.reset with arg0 := 0x80000000 }) = some (.ok, 0, 0, 1) := by decide
/-- V-41-11. -/
theorem test_lon : outcome (exec .lon { State.reset with arg0 := 0x80000000 }) = some (.ok, 0x80000000, 0xFFFFFFFF, 0) := by
  decide
/-- V-41-12. -/
theorem test_lon_positive :
    outcome (exec .lon { State.reset with arg0 := 0x7FFFFFFF }) = some (.ok, 0x7FFFFFFF, 0, 0) := by decide
/-- V-41-19. -/
theorem test_scale_wide :
    outcome (exec (.scale 0) { State.reset with arg0 := 0xFFFFFFFF }) = some (.ok, 0xFFFFFFFE, 1, 1) := by decide
/-- V-41-21. -/
theorem test_scale_speed :
    outcome (exec (.scale 2) { State.reset with arg0 := 6500 }) = some (.ok, 0x1964, 0, 0x00020064) := by decide
/-- V-42-7, V-42-6. -/
theorem test_verify_crc16 :
    (outcome (exec (.verify 0) { checked [0x31, 0x26, 0x72] 0 8 with arg0 := 8 }) = some (.ok, 0x2672, 0x2672, 8)) ∧
    (outcome (exec (.verify 0) { checked [0x31, 0x31, 0x3B] 0 8 with arg0 := 8 }) = some (.ok, 0x2672, 0x313B, 8)) := by
  decide
/-- V-42-12, V-42-13: STATUS.VALIDITY of an even parity check. -/
theorem test_verify_parity :
    (viewOf (exec (.verify 1) { checked [0xB2] 0 7 with arg0 := 7 }) = some (.ok, 0, 8, 0x0000001A)) ∧
    (viewOf (exec (.verify 1) { checked [0xB3] 0 7 with arg0 := 7 }) = some (.ok, 0, 8, 0x0000002A)) := by decide
/-- 42 R174's example: the CRC over 0x31 is 0x2672; 42 R175: RES_HI is 0. -/
theorem test_crccalc : outcome (exec (.crccalc 0) (checked [0x31] 0 8)) = some (.ok, 0x2672, 0, 8) := by decide
/-- V-42-1f. -/
theorem test_crccalc_count :
    outcome (exec (.crccalc 0) { checked [0x31] 0 8 with segCount := 17 }) = some (.badArg, 0, 0, 0) := by decide

/-- V-70-9: little-endian lanes. -/
theorem test_read_lanes :
    (serve (.read .word 0x1000) (loaded [0x56, 0xA0, 0x12, 0x34])).responses = [⟨0x3412A056, false⟩] := by decide
/-- V-70-6. -/
theorem test_locked_write :
    serve (.write .byte 0x1000 0) heading = answered 0 { heading with werr := true } ∧
    serve (.write .word 0x0020 8) heading = answered 0 { heading with werr := true } := by decide
/-- V-70-8. -/
theorem test_bus_errors :
    serve (.read .half 0x1000) heading = refusedByBus heading ∧
    serve (.write .byte 0x0018 1) heading = refusedByBus heading := by decide
/-- 10 R34: BFLAGS keeps bits 2:0, RANGE keeps all. -/
theorem test_band_write :
    readReg (.bandFlags 1 7) (serve (.write .word 0x04FC 0xFFFFFFFF) State.reset) = 7 ∧
    readReg (.bandRange 1 7) (serve (.write .word 0x04F0 0x001F0001) State.reset) = 0x001F0001 := by decide

/-- 30 R90: `fieldspec 8, 0` is two OFFS writes, UINT 2 and `wait`. -/
theorem test_script_fieldspec :
    scriptAccesses (scriptFieldspec [.value 8, .value 0]) =
      [.write .word 0x0100 8, .write .word 0x0104 0, .write .word 0x0014 0x00000211, .read .word 0x0010] := by decide

/-- 30 R89: a branch on `STATUS.VALIDITY[1]`, and `$RES_LO`. -/
theorem test_script_branch :
    (Stmt.bnz .status 5 5 "bad").branch [(.status, 0x2A)] = some "bad" ∧
    (Stmt.bnz .status 5 5 "bad").branch [(.status, 0x1A)] = none ∧
    (Stmt.wr .arg0 (.last .resLo)).access [(.resLo, 0xA0)] = some (.write .word 0x0018 0xA0) := by decide

/-- The first instruction after reset, as `withFetchWord` places it, runs and is the decoded one. -/
theorem test_fetch_word :
    step (State.reset.withFetchWord 32 0x00000023) = exec (.scale 0) (State.reset.withFetchWord 32 0x00000023) ∧
    outcome (step (State.reset.withFetchWord 32 0x00000023)) = some (.ok, 0, 0, 1) := ⟨rfl, by decide⟩

/-! ### Witnesses: states and operands that meet the hypotheses of each statement, clause by clause -/

/-- `heading` while a command word runs, with `n` engine steps before the completing one. -/
def running (w : Word) (n : Nat) : State := { heading with pending := some w, busy := true, progress := n }

theorem heading_inv : Inv heading :=
  ⟨by decide, by decide, by decide, by decide, by decide⟩

theorem running_inv (w : Word) (n : Nat) : Inv (running w n) :=
  ⟨heading_inv.size, heading_inv.ram, heading_inv.view, ⟨rfl, fun _ => rfl, nofun⟩, nofun⟩

theorem witness_DecodeOfEncodeIsIdentity : (Instr.uint 255).WellFormed ∧ Instr.lat.WellFormed := by decide

theorem witness_DecodedWordIsItsEncoding : decode 0x0000FF11 = .ok (.uint 255) := by decide

theorem witness_DecodeRefusesExactlyIllegalWords :
    decode 0x0000FFFF = .error .unassignedOpcode ∧ decode 0x0000FF30 = .ok (.verify 255) := by decide

theorem witness_StepRunsTheDecodedCommand :
    (running 0x812 0).pending = some 0x812 ∧ (running 0x812 0).progress = 0 ∧ decode 0x812 = .ok (.field 8) ∧
    (running 0x812 0).agenda = [] ∧
    ({ running 0x812 0 with agenda := [.engine, .resetInput] } : State).agenda = .engine :: [.resetInput] := by decide

/-- With no turn and with the engine's turn on the agenda; RSV = 1; SEL = 1 under OPC 0x22; the ends of every
unassigned range. -/
theorem witness_IllegalWordCompletesAsIllegal :
    ∀ w : Word, (running w 0).pending = some w ∧ (running w 0).progress = 0 ∧ (running w 0).agenda = [] ∧
      ({ running w 0 with agenda := [.engine, .resetInput] } : State).agenda = .engine :: [.resetInput] ∧
      (0x00010000#32).toNat / 2 ^ 16 ≠ 0 ∧
      ((0x00000122#32).toNat % 2 ^ 8 = 0x22 ∧ (0x00000122#32).toNat / 2 ^ 8 % 2 ^ 8 ≠ 0) ∧
      (0x03 ≤ (0x03#32).toNat ∧ (0x0F#32).toNat ≤ 0x0F) ∧ (0x15 ≤ (0x15#32).toNat ∧ (0x1F#32).toNat ≤ 0x1F) ∧
      (0x24 ≤ (0x24#32).toNat ∧ (0x2F#32).toNat ≤ 0x2F) ∧ 0x32 ≤ (0x32#32).toNat % 2 ^ 8 :=
  fun _ => ⟨rfl, rfl, rfl, rfl, by decide⟩

theorem witness_FailedCommandsArePrecise :
    runWord 0x00004111 heading = .next (complete .badArg false heading) ∧ ErrCode.badArg ≠ .ok :=
  ⟨of_goesTo (by decide), by decide⟩

theorem witness_CompletionSetsItsFields :
    runWord 0x00000030 { heading with validity := .valid } =
      .next (complete .ok true { heading with validity := .valid }) ∧
    runWord 0x00000000 heading = .next (complete .ok false heading) :=
  ⟨of_goesTo (by decide), of_goesTo (by decide)⟩

theorem witness_CommandsWriteOnlyWhatTheyName :
    exec .nop heading = .next (complete .ok false heading) ∧
    exec .lon heading = .next (complete .ok false (setResult 0 0 0 heading)) :=
  ⟨of_goesTo (by decide), of_goesTo (by decide)⟩

theorem witness_InternalEngineStepIsHidden :
    (running 0x10 1).pending = some 0x10 ∧ (running 0x10 1).progress = 0 + 1 ∧ (running 0x10 1).agenda = [] ∧
    ({ running 0x10 1 with agenda := [.engine, .powerUp] } : State).agenda = .engine :: [.powerUp] := by decide

theorem witness_NopOnlyCompletes :
    (0x00000100#32).toNat % 2 ^ 8 = 0 ∧ (0x00000100#32).toNat / 2 ^ 8 ≠ 0 ∧
    (0x80000000#32).toNat % 2 ^ 8 = 0 ∧ (0x80000000#32).toNat / 2 ^ 8 ≠ 0 := by decide

/-- Sealed; BUF_LEN one above the RAM; BUF_LEN the whole RAM. -/
theorem witness_SealOutcomes :
    heading.isSealed = true ∧
    (let s : State := { State.reset with bufLen := 2049 };
      s.isSealed = false ∧ 8 * s.bufBytes < s.bufLen.toNat) ∧
    (let s : State := { State.reset with bufLen := 2048 };
      s.isSealed = false ∧ s.bufLen.toNat ≤ 8 * s.bufBytes) := by decide

theorem witness_ReleaseOutcomes : State.reset.isSealed = false ∧ heading.isSealed = true := by decide

/-- Unsealed; index VLEN; index VLEN − 1. -/
theorem witness_BitOutcomes :
    (ViewOk State.reset ∧ State.reset.isSealed = false) ∧
    (let s : State := { heading with arg0 := 16 };
      ViewOk s ∧ s.isSealed = true ∧ s.vlen.toNat ≤ s.arg0.toNat) ∧
    (let s : State := { heading with arg0 := 15 };
      ViewOk s ∧ s.isSealed = true ∧ s.arg0.toNat < s.vlen.toNat) := by decide

/-- N = 65; N = 64 with the last offset out of the view; N = 64 with all offsets in it; N = 0. -/
theorem witness_UintOutcomes :
    (ViewOk State.reset ∧ State.reset.isSealed = false) ∧ (ViewOk heading ∧ heading.isSealed = true ∧ 64 < 65) ∧
    (let s : State := { heading with offs := heading.offs.set 63 16 };
      ViewOk s ∧ s.isSealed = true ∧ 64 ≤ 64 ∧ ∃ k < 64, s.vlen.toNat ≤ (s.offs.toList.getD k 0).toNat) ∧
    (∀ k < 64, (heading.offs.toList.getD k 0).toNat < heading.vlen.toNat) ∧
    (∀ k < 0, (heading.offs.toList.getD k 0).toNat < heading.vlen.toNat) :=
  ⟨by decide, by decide, by decide, by decide, by decide⟩

/-- w = 65; last bit VLEN; last bit VLEN − 1; w = 0 beyond the view. -/
theorem witness_FieldOutcomes :
    (ViewOk State.reset ∧ State.reset.isSealed = false) ∧ (ViewOk heading ∧ heading.isSealed = true ∧ 64 < 65) ∧
    (let s : State := { heading with arg0 := 9 };
      ViewOk s ∧ s.isSealed = true ∧ 0 < 8 ∧ 8 ≤ 64 ∧ s.vlen.toNat < s.arg0.toNat + 8) ∧
    (let s : State := { heading with arg0 := 8 };
      ViewOk s ∧ s.isSealed = true ∧ 8 ≤ 64 ∧ s.arg0.toNat + 8 ≤ s.vlen.toNat) ∧
    (let s : State := { heading with arg0 := 100 };
      ViewOk s ∧ s.isSealed = true ∧ 0 ≤ 64 ∧ ((0 : Nat) = 0 ∨ s.arg0.toNat + 0 ≤ s.vlen.toNat)) :=
  ⟨by decide, by decide, by decide, by decide, by decide⟩

/-- start > end; end > VLEN; the empty slice at the end of the view. -/
theorem witness_SliceOutcomes :
    (ViewOk State.reset ∧ State.reset.isSealed = false) ∧
    (let s : State := { heading with arg0 := 17, arg1 := 16 };
      ViewOk s ∧ s.isSealed = true ∧ s.arg1.toNat < s.arg0.toNat) ∧
    (let s : State := { heading with arg0 := 17, arg1 := 17 };
      ViewOk s ∧ s.isSealed = true ∧ s.arg0.toNat ≤ s.arg1.toNat ∧ s.vlen.toNat < s.arg1.toNat) ∧
    (let s : State := { heading with arg0 := 16, arg1 := 16 };
      ViewOk s ∧ s.isSealed = true ∧ s.arg0.toNat ≤ s.arg1.toNat ∧ s.arg1.toNat ≤ s.vlen.toNat) :=
  ⟨by decide, by decide, by decide, by decide⟩

theorem witness_UnsliceOutcomes : State.reset.isSealed = false ∧ heading.isSealed = true := by decide

theorem witness_FieldEqualsUintOverConsecutiveOffsets :
    let s : State := { heading with arg0 := 7, offs := (heading.offs.set 0 7).set 1 8 }
    ∀ k < min 2 64, (s.offs.toList.getD k 0).toNat = s.arg0.toNat + k := by decide

/-- V-40-22 then V-40-23. -/
theorem witness_SlicesCompose :
    let s : State := { heading with arg0 := 4, arg1 := 12 }
    let t := complete .ok false (setView 4 8 s)
    let u := complete .ok false (setView 6 4 { t with arg0 := 2, arg1 := 6 })
    exec .slice s = .next t ∧ t.err = .ok ∧ exec .slice { t with arg0 := 2, arg1 := 6 } = .next u ∧ u.err = .ok :=
  ⟨of_goesTo (by decide), by decide, of_goesTo (by decide), by decide⟩

theorem witness_FieldAccessIgnoresValidity :
    (Instr.field 8 = .bit ∨ (∃ n, Instr.field 8 = .uint n) ∨ (∃ w, Instr.field 8 = .field w) ∨ Instr.field 8 = .slice ∨
      Instr.field 8 = .unslice) ∧
    exec (.field 8) heading = .next (complete .ok false (setResult 0x56 0 8 heading)) :=
  ⟨.inr (.inr (.inl ⟨8, rfl⟩)), of_goesTo (by decide)⟩

/-- A byte beyond the view differs. -/
theorem witness_OutcomesDependOnTheViewOnly :
    let s := { heading with vlen := 8 }
    (∀ j < s.vlen.toNat, viewBit { s with mem := cells [0x56, 0xFF] bufBase, powerOns := 1 } j = viewBit s j) ∧
    exec (.field 8) s = .next (complete .ok false (setResult 0x56 0 8 s)) :=
  ⟨by decide, of_goesTo (by decide)⟩

/-- Table 4; width 0, width 17, raw 2^W; the sentinels; both ends of the bands, the first of them deciding; no band. -/
theorem witness_TimerOutcomes :
    3 < 4 ∧ (timed 5).tcfg[1].toNat = 0 ∧ 16 < (timed 5).tcfg[2].toNat ∧
    2 ^ (timed 512).tcfg[0].toNat ≤ (timed 512).arg0.toNat ∧
    (1 ≤ (timed 0).tcfg[0].toNat ∧ (timed 0).tcfg[0].toNat ≤ 16 ∧ (timed 0).arg0.toNat = 0) ∧
    (timed 511).arg0.toNat = 2 ^ (timed 511).tcfg[0].toNat - 1 ∧
    (0 < (timed 510).arg0.toNat ∧ (timed 510).arg0.toNat < 2 ^ (timed 510).tcfg[0].toNat - 1 ∧
      (timed 510).bands[0][1].Covers 510 ∧ ∀ c : Fin 8, c < 1 → ¬ (timed 510).bands[0][c].Covers 510) ∧
    (0 < (timed 65534).arg0.toNat ∧ (timed 65534).arg0.toNat < 2 ^ (timed 65534).tcfg[3].toNat - 1 ∧
      (timed 65534).bands[3][0].Covers 65534) ∧
    (let s : State := { timed 1 with tcfg := #v[9, 16, 0, 0] };
      1 ≤ s.tcfg[1].toNat ∧ s.tcfg[1].toNat ≤ 16 ∧ 0 < s.arg0.toNat ∧ s.arg0.toNat < 2 ^ s.tcfg[1].toNat - 1 ∧
        ∀ b : Fin 8, ¬ s.bands[1][b].Covers s.arg0.toNat) := by decide

theorem witness_ScaleOutcomes : 2 < 3 ∧ 2 ≤ 2 ∧ 0 ≤ 2 := by decide

/-- TIMER: raw 0, raw 511, band 0 of EMERG-EX from its lower end to its upper, and no band; 320 degrees (V-L1-5). -/
theorem witness_CodecResultsAreExactRationals :
    (exec (.timer 0) (timed 0) = .next (complete .ok false (setResult 0 0 1 (timed 0))) ∧
      exec (.timer 0) (timed 511) = .next (complete .ok false (setResult 0 0 2 (timed 511))) ∧
      exec (.timer 0) (timed 1) = .next (complete .ok false (setResult 1 0 0 (timed 1))) ∧
      exec (.timer 0) (timed 31) = .next (complete .ok false (setResult 31 0 0 (timed 31))) ∧
      (timed 0).bands[0][0].Covers 1 ∧ (timed 0).bands[0][0].Covers 31) ∧
    (let s : State := { timed 1 with tcfg := #v[9, 16, 0, 0] };
      exec (.timer 1) s = .next (complete .ok false (setResult 0 0 3 s)) ∧
        ∀ b : Fin 8, ¬ s.bands[1][b].Covers s.arg0.toNat) ∧
    exec .lat { State.reset with arg0 := 0xC0000000 } = .next (complete .ok false
      (setResult 0xC0000000 0xFFFFFFFF 1 { State.reset with arg0 := 0xC0000000 })) ∧
    exec .lon { State.reset with arg0 := 0x80000000 } = .next (complete .ok false
      (setResult 0x80000000 0xFFFFFFFF 0 { State.reset with arg0 := 0x80000000 })) ∧
    exec (.scale 0) { State.reset with arg0 := 160 } = .next (complete .ok false
      (setResult 320 0 1 { State.reset with arg0 := 160 })) ∧
    exec (.scale 1) State.reset = .next (complete .ok false (setResult 0 0 0x00010064 State.reset)) ∧
    exec (.scale 2) State.reset = .next (complete .ok false (setResult 0 0 0x00020064 State.reset)) :=
  ⟨⟨of_goesTo (by decide), of_goesTo (by decide), of_goesTo (by decide), of_goesTo (by decide), by decide, by decide⟩,
    ⟨of_goesTo (by decide), by decide⟩,
    of_goesTo (by decide), of_goesTo (by decide), of_goesTo (by decide), of_goesTo (by decide), of_goesTo (by decide)⟩

/-- The state of V-42-7. -/
def crcState : State := { checked [0x31, 0x26, 0x72] 0 8 with arg0 := 8 }

/-- Each check in turn, the check field ending at VLEN last. -/
theorem witness_VerifyOutcomes :
    (ViewOk State.reset ∧ State.reset.isSealed = false) ∧
    (let s : State := { crcState with validity := .invalid };
      ViewOk s ∧ s.isSealed = true ∧ s.validity ≠ .none) ∧
    (ViewOk crcState ∧ crcState.isSealed = true ∧ crcState.validity = .none ∧ 3 < 4) ∧
    (heading.validity = .none ∧ heading.alg[0].width.toNat = 0) ∧
    (1 ≤ crcState.alg[2].width.toNat ∧ crcState.alg[2].width.toNat ≤ 32) ∧
    (let s : State := { crcState with segCount := 17 };
      ViewOk s ∧ 16 < s.segCount.toNat) ∧
    (let s : State := { crcState with segCount := 16, seg := crcState.seg.set 15 ⟨24, 1⟩ };
      ViewOk s ∧ s.segCount.toNat ≤ 16 ∧ SegmentBeyondView s) ∧
    (let s : State := { crcState with arg0 := 9 };
      ViewOk s ∧ ¬ SegmentBeyondView s ∧ s.vlen.toNat < s.arg0.toNat + s.alg[0].width.toNat) ∧
    (crcState.segCount.toNat ≤ 16 ∧ ¬ SegmentBeyondView crcState ∧
      crcState.arg0.toNat + crcState.alg[0].width.toNat ≤ crcState.vlen.toNat) :=
  ⟨by decide, by decide, by decide, by decide, by decide, by decide, by decide, by decide, by decide⟩

/-- Each check in turn; the last state has a segment of LEN 0 beyond the view and one that ends with it. -/
theorem witness_CrccalcOutcomes :
    (ViewOk State.reset ∧ State.reset.isSealed = false) ∧ (ViewOk crcState ∧ crcState.isSealed = true ∧ 3 < 4) ∧
    (ViewOk heading ∧ heading.isSealed = true ∧ heading.alg[3].width.toNat = 0) ∧
    (let s : State := { crcState with segCount := 17 };
      ViewOk s ∧ s.isSealed = true ∧ 1 ≤ s.alg[1].width.toNat ∧ s.alg[1].width.toNat ≤ 32 ∧ 16 < s.segCount.toNat) ∧
    (let s : State := { crcState with seg := crcState.seg.set 0 ⟨0, 25⟩ };
      ViewOk s ∧ s.isSealed = true ∧ s.segCount.toNat ≤ 16 ∧ SegmentBeyondView s) ∧
    (let s : State := { crcState with segCount := 2, seg := (crcState.seg.set 0 ⟨0, 24⟩).set 1 ⟨1000, 0⟩ };
      ViewOk s ∧ s.isSealed = true ∧ s.segCount.toNat ≤ 16 ∧ ¬ SegmentBeyondView s) :=
  ⟨by decide, by decide, by decide, by decide, by decide, by decide⟩

theorem witness_SecondVerifyIsCached :
    let s : State := { crcState with validity := .valid }
    s.isSealed = true ∧ s.validity ≠ .none := by decide

theorem witness_CrcIsPolynomialRemainder :
    (1 ≤ crcState.alg[1].width.toNat ∧ crcState.alg[1].width.toNat ≤ 32) ∧
    (1 ≤ crcState.alg[2].width.toNat ∧ crcState.alg[2].width.toNat ≤ 32) := by decide

theorem witness_WidthOneCrcIsParity : crcState.alg[1].width = 1 ∧ crcState.alg[1].poly.getLsbD 0 = true := by decide

/-- B2 and 32, its first bit changed, agree on every bit from 8 on: no byte is listed there. -/
theorem changed_agrees_beyond (k : Nat) (h : 8 ≤ k) :
    viewBit { { checked [0xB2] 0 7 with arg0 := 7 } with mem := cells [0x32] bufBase, powerOns := 0 } k =
      viewBit { checked [0xB2] 0 7 with arg0 := 7 } k := by
  have e : ∀ b : Byte, Memory.get? (cells [b] bufBase) (bufBase + k / 8) = none := fun b => by
    simp [cells, Memory.get?]; omega
  have hv : (checked [0xB2] 0 7).vbase.toNat = 0 := by decide
  simp only [viewBit, bitAbs, bufByte, hv, Nat.zero_add]
  rw [e 0x32, show (checked [0xB2] 0 7).mem = cells [0xB2] bufBase from rfl, e 0xB2]
  rfl

/-- B2 with its first bit changed: from VALID to INVALID. -/
theorem witness_OneChangedBitMakesVerifyInvalid :
    let s : State := { checked [0xB2] 0 7 with arg0 := 7 }
    let m := cells [0x32] bufBase
    s.alg[1].poly.getLsbD 0 = true ∧ (protectedSpan s ++ span s.arg0.toNat s.alg[1].width.toNat).Nodup ∧
    0 ∈ protectedSpan s ++ span s.arg0.toNat s.alg[1].width.toNat ∧
    (∀ k, viewBit { s with mem := m, powerOns := 0 } k = if k = 0 then !viewBit s 0 else viewBit s k) ∧
    s.validity = .none ∧
    exec (.verify 1) s = .next (complete .ok false (setResult 0 0 7 { s with validity := .valid })) := by
  refine ⟨by decide, by decide, by decide, fun k => ?_, by decide, of_goesTo (by decide)⟩
  by_cases h : k < 8
  · revert k; decide
  · rw [if_neg (by omega)]; exact changed_agrees_beyond k (by omega)

/-- V-42-10 and V-42-11 in small: a framing byte in no segment. -/
theorem witness_ExcludedBitsHaveNoInfluence :
    let s : State := { checked [0xFF, 0xB2] 8 7 with arg0 := 15 }
    let m := cells [0xEF, 0xB2] bufBase
    (∀ j ∈ protectedSpan s ++ span s.arg0.toNat s.alg[1].width.toNat,
      viewBit { s with mem := m, powerOns := 5 } j = viewBit s j) ∧
    exec (.verify 1) s = .next (complete .ok false (setResult 0 0 7 { s with validity := .valid })) :=
  ⟨by decide, of_goesTo (by decide)⟩

/-- The verified state has the view and the engine of its invariant. -/
theorem witness_ValidityIsSetAtMostOncePerPhase :
    let s : State := { crcState with pending := some 0x30, busy := true }
    let v : State := { crcState with validity := .valid, agenda := [.resetInput] }
    (Inv s ∧ step s = .next (complete .ok false (setResult 0x2672 0x2672 8 { s with validity := .valid })) ∧
      Validity.valid ≠ s.validity) ∧
    (Inv v ∧ step v = .next (resetBlock { v with agenda := [] }) ∧ Validity.none ≠ v.validity) :=
  ⟨⟨⟨by decide, by decide, by decide, by decide, by decide⟩, of_goesTo (by decide), by decide⟩,
    ⟨by decide, by decide, by decide, by decide, by decide⟩, of_goesTo (by decide), by decide⟩

theorem witness_StepKeepsInvariant :
    Inv (running 0x812 0) ∧
    step (running 0x812 0) = .next (complete .ok false (setResult 0x56 0 8 (running 0x812 0))) :=
  ⟨running_inv _ _, of_goesTo (by decide)⟩

theorem witness_PowerOnMeetsInvariant : 12 ≤ 12 ∧ 12 ≤ 8192 ∧ 12 ≤ 8192 ∧ 8192 ≤ 8192 := by decide

theorem witness_InvariantStatesNeverStop : Inv (running 0x00004011 0) := running_inv _ _

theorem witness_SealedBufferNeverChanges :
    let s : State := { heading with agenda := [.host (.write .byte 0x1000 0xFF)] }
    s.isSealed = true ∧ step s = .next (answered 0 { heading with werr := true }) ∧
    (answered 0 { heading with werr := true }).isSealed = true :=
  ⟨by decide, of_goesTo (by decide), by decide⟩

theorem witness_EveryIssuedCommandCompletes :
    let s : State := { running 0x812 3 with agenda := [.host (.read .word 0x0010), .engine] }
    Inv s ∧ s.busy = true ∧ ∀ u ∈ s.agenda, quietTurn u = true :=
  ⟨⟨heading_inv.size, heading_inv.ram, heading_inv.view, ⟨rfl, fun _ => rfl, nofun⟩, nofun⟩, rfl, by decide⟩

/-- The accesses of V-70-1. -/
theorem witness_OutcomeIndependentOfAccessesWhileBusy :
    (running 0x812 0).busy = true ∧
    (∀ a ∈ [Access.write .word 0x0018 4, Access.write .word 0x0014 0x412], resets a = false) ∧
    exec (.field 8) (running 0x812 0) = .next (complete .ok false (setResult 0x56 0 8 (running 0x812 0))) :=
  ⟨by decide, by decide, of_goesTo (by decide)⟩

/-- 8192 is legal; three turns reset, the CTRL write with 1 in SRST and 0 in IE. -/
theorem witness_ResetRegisterValues :
    8192 ≤ Config.maxBufBytes ∧ heading.bufBytes ≤ Config.maxBufBytes ∧ quietTurn .resetInput = false ∧
    quietTurn .powerUp = false ∧ quietTurn (.host (.write .word 0x000C 2)) = false ∧ (2#32).getLsbD 0 = false := by
  decide

/-- SRST alone, and with IE. -/
theorem witness_ResetSourcesHaveTheSameEffect : (2#32).getLsbD 1 = true ∧ (3#32).getLsbD 1 = true := by decide

/-- Both turns, on a running command. -/
theorem witness_ResetAbandonsTheCommandAndKeepsBuf :
    (2#32).getLsbD 1 = true ∧ (2#32).getLsbD 0 = false ∧
    step { running 0x812 5 with agenda := [.resetInput] } = .next (resetBlock (running 0x812 5)) ∧
    step { running 0x812 5 with agenda := [.host (.write .word 0x000C 2)] } =
      .next (answered 0 (resetBlock (running 0x812 5))) ∧
    Turn.host (.write .word 0x000C 2) ≠ .resetInput :=
  ⟨by decide, by decide, of_goesTo (by decide), of_goesTo (by decide), by decide⟩

theorem witness_CmdWriteIssuesTheCommand : heading.busy = false := by decide

theorem witness_CmdWriteWhileBusyIsDropped : (running 0x812 1).busy = true := by decide

/-- While BUSY, and in an idle block. -/
theorem witness_OperandWritesWhileBusyAreDropped :
    LegalSize heading ∧ heading.busy = false ∧
    LegalSize (running 0x812 1) ∧ (running 0x812 1).busy = true ∧ operandReg (.offs 63) = true ∧
    255 < (running 0x812 1).bufBytes ∧ (252 % 4 = 0 ∧ 252 + 4 ≤ (running 0x812 1).bufBytes) ∧
    (1#32).getLsbD 1 = false ∧ ((2#32).getLsbD 1 = true ∧ (2#32).getLsbD 0 = false) ∧ readOnlyReg .resAux = true ∧
    (0x03C % 4 = 0 ∧ 0x03C ≤ (0x03C#16).toNat ∧ (0x0FC#16).toNat < 0x100) ∧
    (0x2D0 ≤ (0x2D0#16).toNat ∧ (0x3FC#16).toNat < 0x400) ∧ (0x600 ≤ (0x600#16).toNat ∧ (0xFFC#16).toNat < 0x1000) ∧
    0x1000 + (running 0x812 1).bufBytes ≤ (0x1100#16).toNat := by decide

/-- As many bytes as a RAM of 12 holds, and none. -/
theorem witness_LoadFillsTheBuffer :
    let s : State := { State.reset with bufBytes := 12 }
    LegalSize s ∧ s.busy = false ∧ s.isSealed = false ∧ (List.replicate 12 (0xAB : Byte)).length ≤ s.bufBytes ∧
    ([] : List Byte).length ≤ s.bufBytes := by decide

theorem witness_BufWritesStoreLanesOrAreDropped :
    (LegalSize heading ∧ 255 < heading.bufBytes ∧ heading.isSealed = true) ∧
    (LegalSize (loaded []) ∧ 255 < (loaded []).bufBytes ∧ 252 % 4 = 0 ∧ 252 + 4 ≤ (loaded []).bufBytes ∧
      (loaded []).isSealed = false ∧ (loaded []).busy = false) := by decide

theorem witness_BufReadsReturnLanes :
    LegalSize heading ∧ 255 < heading.bufBytes ∧ 252 % 4 = 0 ∧ 252 + 4 ≤ heading.bufBytes := by decide

/-- A halfword, a misaligned word, a byte on each side of BUF, and a word across the end of 254 bytes of BUF; not listed
are the last byte and the last word of BUF, a word of a register and one beyond BUF. -/
theorem witness_BusErrorsHaveNoEffect :
    LegalSize heading ∧ Size.half = .half ∧ (0x1002#16).toNat % 4 ≠ 0 ∧ (0x0FFF#16).toNat < 0x1000 ∧
    0x1000 + heading.bufBytes ≤ (0x1100#16).toNat ∧
    (let s : State := { heading with bufBytes := 254 };
      LegalSize s ∧ (0x10FC#16).toNat < 0x1000 + s.bufBytes ∧ 0x1000 + s.bufBytes < (0x10FC#16).toNat + 4) ∧
    (let listed := fun (size : Size) (a : Nat) => size = .half ∨ (size = .word ∧ a % 4 ≠ 0) ∨
        (size = .byte ∧ (a < 0x1000 ∨ 0x1000 + heading.bufBytes ≤ a)) ∨
        (size = .word ∧ a < 0x1000 + heading.bufBytes ∧ 0x1000 + heading.bufBytes < a + 4);
      ¬ listed .byte 0x10FF ∧ ¬ listed .word 0x10FC ∧ ¬ listed .word 0x0000 ∧ ¬ listed .word 0x1100) := by decide

theorem witness_RegisterMapHasNoAliases :
    0x5FC % 4 = 0 ∧ locate 0x5FC = some (.bandFlags 3 7) ∧ locate 0x000 = some .id ∧
    Reg.offset (.bandFlags 3 7) = Reg.offset (.bandFlags 3 7) := by decide

theorem witness_RegisterReadsReturnTheRegisters : LegalSize heading := by decide

/-- The first and the last operand register, sealed and idle; BUF_LEN open and idle, and sealed and idle. -/
theorem witness_OperandWritesStoreDefinedBits :
    heading.busy = false ∧ heading.isSealed = true ∧ State.reset.busy = false ∧ State.reset.isSealed = false ∧
    (operandReg .arg0 = true ∧ Reg.arg0 ≠ .bufLen) ∧
    (operandReg (.bandFlags 3 7) = true ∧ Reg.bandFlags 3 7 ≠ .bufLen) ∧ operandReg .bufLen = true := by decide

theorem witness_ReservedSpaceReadsZeroAndIgnoresWrites :
    (0x03C ≤ (0x03C#16).toNat ∧ (0x0FC#16).toNat < 0x100) ∧ (0x2D0 ≤ (0x2D0#16).toNat ∧ (0x3FC#16).toNat < 0x400) ∧
    (0x600 ≤ (0x600#16).toNat ∧ (0xFFC#16).toNat < 0x1000) ∧ 0x1000 + heading.bufBytes ≤ (0x1100#16).toNat ∧
    (0x1100#16).toNat % 4 = 0 := by decide

theorem witness_InterruptIsDoneAndEnabled :
    runWord 0x00000003 heading = .next (complete .illegal false heading) ∧
    ({ heading with done := true } : State).done = true :=
  ⟨of_goesTo (by decide), by decide⟩

theorem witness_AcknowledgeAndStickyFlags :
    (2#32).getLsbD 1 = true ∧ (0x1000#32).getLsbD 12 = true ∧ (0x2000#32).getLsbD 13 = true ∧ heading.busy = false ∧
    step { running 0x812 1 with agenda := [.resetInput] } = .next (resetBlock (running 0x812 1)) ∧
    (let s : State := { heading with werr := true, agenda := [.host (.write .word 0x0010 0x1000)] };
      step s = .next (answered 0 heading) ∧ s.werr = true ∧ (answered 0 heading).werr = false) :=
  ⟨by decide, by decide, by decide, by decide, of_goesTo (by decide), of_goesTo (by decide), by decide⟩

end Sys2Proof.Tests
end

section
/-! PROOFS. The family 20_memory.md: writes to BUF (20 R65, R63) and bus errors (20 R62). -/

namespace Sys2Proof.Proofs

open Sys2Proof.Machine Sys2Proof.Safety

/-! ### The bus's answer -/

theorem respond_busError (s : State) : respond 0 .busError s = refusedByBus s := rfl

theorem respond_eq_answered {t : Target} (ht : t ≠ .busError) (d : Word) (s : State) :
    respond d t s = answered d s := by
  simp [respond, answered, ht]

@[simp] theorem bufByte_answered (d : Word) (s : State) (j : Nat) : bufByte (answered d s) j = bufByte s j := rfl

/-- No write edits the record of the answers given before it (log 5). -/
theorem writeTarget_responses (t : Target) (v : Word) (s : State) :
    (writeTarget t v s).responses = s.responses := by
  have h := writeTarget_effect t v s
  generalize writeTarget t v s = s' at h ⊢
  cases h <;> rfl

/-! ### The addresses of BUF -/

/-- BUF ends inside the window: 0x1000 and the greatest BUF_BYTES stay below 2^16 (10 R35). -/
theorem toNat_bufAddr {s : State} {k : Nat} (hs : LegalSize s) (hk : k < s.bufBytes) :
    (bufAddr k).toNat = 0x1000 + k := by
  have hmax : s.bufBytes ≤ 8192 := hs.2
  simp only [bufAddr, bufBase, BitVec.toNat_ofNat]
  omega

theorem target_byte_bufAddr {s : State} {k : Nat} (hs : LegalSize s) (hk : k < s.bufBytes) :
    target s.bufBytes .byte (bufAddr k) = .bufByte k := by
  have ha := toNat_bufAddr hs hk
  rcases target_byte_cases s.bufBytes (bufAddr k) with ⟨-, -, ht⟩ | ⟨hout, -⟩
  · rw [ht, ha, Nat.add_sub_cancel_left]
  · omega

theorem target_word_bufAddr {s : State} {k : Nat} (hs : LegalSize s) (hal : k % 4 = 0) (hk : k + 4 ≤ s.bufBytes) :
    target s.bufBytes .word (bufAddr k) = .bufWord k := by
  have ha := toNat_bufAddr (k := k) hs (by omega)
  rcases target_word_cases s.bufBytes (bufAddr k) with
    ⟨hmis, -⟩ | ⟨-, hlow, -⟩ | ⟨-, -, -, ht⟩ | ⟨-, -, -, hcross, -⟩ | ⟨-, hbeyond, -⟩
  · omega
  · omega
  · rw [ht, ha, Nat.add_sub_cancel_left]
  · omega
  · omega

/-! ### Writes to BUF -/

theorem serve_write_byte_bufAddr {s : State} {k : Nat} (v : Word) (hs : LegalSize s) (hk : k < s.bufBytes) :
    serve (.write .byte (bufAddr k) v) s = answered 0 (storeOpen (setBufByte k (v.extractLsb' 0 8)) s) := by
  rw [serve_write, target_byte_bufAddr hs hk, respond_eq_answered (by simp)]
  rfl

theorem serve_write_word_bufAddr {s : State} {k : Nat} (v : Word) (hs : LegalSize s) (hal : k % 4 = 0)
    (hk : k + 4 ≤ s.bufBytes) :
    serve (.write .word (bufAddr k) v) s = answered 0 (storeOpen (setBufWord k v) s) := by
  rw [serve_write, target_word_bufAddr hs hal hk, respond_eq_answered (by simp)]
  rfl

/-- Settles O50: a legal BUF address reaches the lock `storeOpen`, which drops or stores; the bytes after a store are
those of `bufByte_setBufByte` and `bufByte_setBufWord`. -/
theorem bufWritesStoreLanesOrAreDropped : Obligations.BufWritesStoreLanesOrAreDropped := by
  intro s v hs
  refine ⟨fun k hk hlock => ?_, fun k hal hk hlock => ?_, fun k hk hopen hidle => ?_,
    fun k hal hk hopen hidle => ?_⟩
  · rw [serve_write_byte_bufAddr v hs hk, storeOpen_locked hlock]
    rfl
  · rw [serve_write_word_bufAddr v hs hal hk, storeOpen_locked hlock]
    rfl
  · rw [serve_write_byte_bufAddr v hs hk, storeOpen_open hopen hidle]
    exact ⟨rfl, fun j => by rw [bufByte_answered, bufByte_setBufByte]⟩
  · rw [serve_write_word_bufAddr v hs hal hk, storeOpen_open hopen hidle]
    exact ⟨rfl, fun j => by rw [bufByte_answered, bufByte_setBufWord]⟩

/-! ### Bus errors -/

/-- The bus errors are exactly the accesses that 20 R62 lists. -/
theorem target_eq_busError_iff (n : Nat) (size : Size) (addr : BitVec 16) :
    target n size addr = .busError ↔
      size = .half ∨ (size = .word ∧ addr.toNat % 4 ≠ 0) ∨
        (size = .byte ∧ (addr.toNat < 0x1000 ∨ 0x1000 + n ≤ addr.toNat)) ∨
        (size = .word ∧ addr.toNat < 0x1000 + n ∧ 0x1000 + n < addr.toNat + 4) := by
  cases size with
  | half => simp [target]
  | byte =>
    rcases target_byte_cases n addr with ⟨hlo, hhi, ht⟩ | ⟨hout, ht⟩
    · simp [ht, hlo, hhi]
    · simp [ht, hout]
  | word =>
    rcases target_word_cases n addr with
      ⟨hmis, ht⟩ | ⟨hal, hlow, ⟨r, -, ht⟩ | ⟨-, ht⟩⟩ | ⟨hal, -, hin, ht⟩ | ⟨hal, -, hstart, hcross, ht⟩ |
        ⟨hal, hbeyond, ht⟩
    · simp [ht, hmis]
    · simp [ht, hal]; omega
    · simp [ht, hal]; omega
    · simp [ht, hal]; omega
    · simp [ht, hstart, hcross]
    · simp [ht, hal]; omega

/-- Settles O53: `target` is a bus error on exactly the listed accesses, and only that target is answered with an
error. -/
theorem busErrorsHaveNoEffect : Obligations.BusErrorsHaveNoEffect := by
  intro s size addr v _
  rw [← target_eq_busError_iff, serve_read, serve_write]
  refine ⟨fun ht => ?_, fun ht => ⟨⟨_, respond_eq_answered ht _ s⟩, ⟨_, respond_eq_answered ht 0 _, ?_⟩⟩⟩
  · rw [ht]
    exact ⟨respond_busError s, respond_busError s⟩
  · exact writeTarget_responses _ v s

end Sys2Proof.Proofs
end

section
/-! PROOFS. The family 30_encoding.md: the words the decoder refuses (30 R86), their completion (30 R83 to R85) and the
encoding examples (30 R91). -/

namespace Sys2Proof.Proofs

open Sys2Proof.Machine

/-! ### The fields of a command word (30 R80) -/

theorem opcField_eq (w : Word) : opcField w = w.toNat % 2 ^ 8 := by
  simp [opcField]

theorem selField_eq (w : Word) : selField w = w.toNat / 2 ^ 8 % 2 ^ 8 := by
  simp [selField, Nat.shiftRight_eq_div_pow]

theorem rsvField_eq (w : Word) : rsvField w = w.toNat / 2 ^ 16 := by
  have hw := w.isLt
  simp only [rsvField, BitVec.extractLsb'_toNat, Nat.shiftRight_eq_div_pow]
  omega

/-! ### The opcode map (30 R81) -/

/-- The OPC values of the opcode map (30 R81). -/
def assignedOpcodes : List Nat :=
  [0x00, 0x01, 0x02, 0x10, 0x11, 0x12, 0x13, 0x14, 0x20, 0x21, 0x22, 0x23, 0x30, 0x31]

/-- The OPC values that 30 R81 marks "must be 0" for SEL. -/
def selectorlessOpcodes : List Nat := [0x00, 0x01, 0x02, 0x10, 0x13, 0x14, 0x21, 0x22]

theorem withoutSel_eq_ok_iff (i j : Instr) (sel : Nat) : withoutSel i sel = .ok j ↔ i = j ∧ sel = 0 := by
  unfold withoutSel
  split <;> simp [*]

theorem withoutSel_eq_error_iff (i : Instr) (sel : Nat) :
    (∃ e, withoutSel i sel = .error e) ↔ sel ≠ 0 := by
  unfold withoutSel
  split <;> simp [*]

/-- The opcode map decodes every command from its own OPC and SEL. -/
theorem decodeOpcode_opcode_sel (i : Instr) : decodeOpcode i.opcode i.sel = .ok i := by
  cases i <;> rfl

/-- The opcode map refuses an OPC it does not hold, and a nonzero SEL where it must be 0 (30 R84, R85). -/
theorem decodeOpcode_eq_error_iff (opc sel : Nat) :
    (∃ e, decodeOpcode opc sel = .error e) ↔
      opc ∉ assignedOpcodes ∨ (opc ∈ selectorlessOpcodes ∧ sel ≠ 0) := by
  unfold decodeOpcode
  split <;> simp_all [assignedOpcodes, selectorlessOpcodes, withoutSel_eq_error_iff]

/-- The opcode map is the table of the commands' OPC and SEL. -/
theorem decodeOpcode_eq_ok_iff (opc sel : Nat) (i : Instr) :
    decodeOpcode opc sel = .ok i ↔ i.opcode = opc ∧ i.sel = sel := by
  constructor
  · intro h
    unfold decodeOpcode at h
    split at h <;> grind [withoutSel_eq_ok_iff, Instr.opcode, Instr.sel]
  · rintro ⟨rfl, rfl⟩
    exact decodeOpcode_opcode_sel i

/-! ### The decoding function (30 R86) -/

theorem decode_eq_ok_iff {w : Word} {i : Instr} :
    decode w = .ok i ↔ rsvField w = 0 ∧ i.opcode = opcField w ∧ i.sel = selField w := by
  unfold decode
  split
  next hrsv => simp [hrsv]
  next hrsv => simp [not_not.mp hrsv, decodeOpcode_eq_ok_iff]

theorem decode_eq_error_iff (w : Word) :
    (∃ e, decode w = .error e) ↔
      rsvField w ≠ 0 ∨ opcField w ∉ assignedOpcodes ∨ (opcField w ∈ selectorlessOpcodes ∧ selField w ≠ 0) := by
  unfold decode
  split
  next hrsv => simp [hrsv]
  next hrsv => rw [decodeOpcode_eq_error_iff]; simp [not_not.mp hrsv]

/-- Settles O3: the decoder by its fields, with the fields as arithmetic on the word. -/
theorem decodeRefusesExactlyIllegalWords : Obligations.DecodeRefusesExactlyIllegalWords := by
  intro w
  rw [← rsvField_eq, ← opcField_eq, ← selField_eq]
  exact ⟨decode_eq_error_iff w, fun i h => (decode_eq_ok_iff.mp h).2⟩

/-- Settles O4: each word has RSV = 0 and the OPC and SEL of its command. -/
theorem exampleWordsDecode : Obligations.ExampleWordsDecode := by
  unfold Obligations.ExampleWordsDecode
  simp only [decode_eq_ok_iff]
  decide

/-! ### The completing step of an illegal word (30 R83 to R85) -/

theorem runWord_of_refused {w : Word} (h : ∃ e, decode w = .error e) (s : State) :
    runWord w s = .next (complete .illegal false s) := by
  obtain ⟨e, he⟩ := h
  simp [runWord, he, raiseError]

theorem engineStep_completing {s : State} {w : Word} (hp : s.pending = some w) (hn : s.progress = 0) :
    engineStep s = runWord w s := by
  simp [engineStep, hp, hn]

theorem step_agenda_nil {s : State} (h : s.agenda = []) : step s = engineStep s := by
  simp [step, h]

theorem step_agenda_engine {s : State} {rest : List Turn} (h : s.agenda = .engine :: rest) :
    step s = engineStep { s with agenda := rest } := by
  simp [step, h]

/-- The ranges between the assigned OPC values (30 R85). -/
theorem not_mem_assignedOpcodes {opc : Nat}
    (h : (0x03 ≤ opc ∧ opc ≤ 0x0F) ∨ (0x15 ≤ opc ∧ opc ≤ 0x1F) ∨ (0x24 ≤ opc ∧ opc ≤ 0x2F) ∨ 0x32 ≤ opc) :
    opc ∉ assignedOpcodes := by
  simp only [assignedOpcodes, List.mem_cons, List.not_mem_nil, or_false]
  omega

/-- Settles O6: the decoder refuses the word (O3), so the engine's completing step is `complete .illegal`. -/
theorem illegalWordCompletesAsIllegal : Obligations.IllegalWordCompletesAsIllegal := by
  intro s w rest hp hn hill
  have hrefused : ∃ e, decode w = .error e := by
    refine (decodeRefusesExactlyIllegalWords w).1.mpr ?_
    rcases hill with hrsv | hsel | hopc
    · exact .inl hrsv
    · exact .inr (.inr hsel)
    · exact .inr (.inl (not_mem_assignedOpcodes hopc))
  have hengine : ∀ u : State, u.pending = some w → u.progress = 0 →
      engineStep u = .next (complete .illegal false u) := fun u hup hun =>
    (engineStep_completing hup hun).trans (runWord_of_refused hrefused u)
  exact ⟨fun ha => (step_agenda_nil ha).trans (hengine s hp hn),
    fun ha => (step_agenda_engine ha).trans (hengine { s with agenda := rest } hp hn)⟩

end Sys2Proof.Proofs
end

section
/-! PROOFS. The family 40_bitbuffer.md: buffer control (40 R101 to R103), extraction (40 R104, R105, R111) and slices
(40 R107 to R109). -/

namespace Sys2Proof.Proofs

open Sys2Proof.Machine Sys2Proof.Safety Sys2Proof.Laws

/-! ### Command words as numbers (30 R80) -/

/-- A command word with RSV = 0 is the number OPC + SEL · 2^8. -/
theorem encode_eq_ofNat {i : Instr} (hshape : EncodingShape.Statement i) (hwf : i.WellFormed) :
    encode i = BitVec.ofNat 32 (i.opcode + i.sel * 2 ^ 8) := by
  obtain ⟨hopc, hsel, hrsv⟩ := hshape hwf
  rw [opcField_eq] at hopc
  rw [selField_eq] at hsel
  rw [rsvField_eq] at hrsv
  have hnum : (encode i).toNat = i.opcode + i.sel * 2 ^ 8 := by omega
  rw [← hnum, BitVec.ofNat_toNat, BitVec.setWidth_eq]

/-! ### Bits and their assembly as integers (00 R11, R12) -/

/-- The bit an index names is the integer formula of 00 R11. -/
theorem toNat_viewBit (s : State) (j : Nat) : (viewBit s j).toNat = bitNumber s j := by
  rw [viewBit, bitAbs, bitNumber, BitVec.getLsbD, Nat.toNat_testBit]

theorem assembled_cons (s : State) (j : Nat) (js : List Nat) :
    assembled s (j :: js) = bitNumber s j * 2 ^ js.length + assembled s js := by
  rw [assembled, List.length_cons, Finset.sum_range_succ', add_comm]
  congr 1
  refine Finset.sum_congr rfl fun k _ => ?_
  rw [List.getD_cons_succ]
  congr 2
  omega

/-- Shifting in bit by bit, as `assemble` does, gives the sum of 00 R12. -/
theorem assemble_map_viewBit (s : State) (js : List Nat) : assemble (js.map (viewBit s)) = assembled s js := by
  induction js with
  | nil => rfl
  | cons j js ih => rw [List.map_cons, assemble_cons, toNat_viewBit, List.length_map, ih, assembled_cons]

theorem assembled_lt (s : State) (js : List Nat) : assembled s js < 2 ^ js.length := by
  simpa [assemble_map_viewBit] using assemble_lt (js.map (viewBit s))

/-! ### Reads inside the view -/

/-- The view lies in the RAM, so every bit of it does (10 R27). -/
theorem inRam_of_lt_vlen {s : State} (hview : ViewOk s) (hs : s.isSealed = true) {j : Nat} (hj : j < s.vlen.toNat) :
    InRam s j := by
  obtain ⟨hbase, hlen⟩ := hview.1 hs
  unfold InRam
  omega

/-- The common end of UINT and FIELD on indices in the view, with the value as a sum. -/
theorem extractBits_of_lt_vlen {s : State} (hview : ViewOk s) (hs : s.isSealed = true) {js : List Nat}
    (hjs : ∀ j ∈ js, j < s.vlen.toNat) :
    extractBits s js = .next (complete .ok false (setResult (BitVec.ofNat 32 (assembled s js))
      (BitVec.ofNat 32 (assembled s js / 2 ^ 32)) (BitVec.ofNat 32 js.length) s)) := by
  rw [extractBits, withBits_of_inRam fun j hj => inRam_of_lt_vlen hview hs (hjs j hj), assemble_map_viewBit]
  rfl

/-- The first entries of OFFS, by their numbers; OFFS has 64. -/
theorem offsIndices_eq_map_range (s : State) {n : Nat} (hn : n ≤ 64) :
    offsIndices s n = (List.range n).map fun k => (s.offs.toList.getD k 0).toNat := by
  refine List.ext_getElem (by simp [offsIndices, hn]) fun k hk _ => ?_
  have hk64 : k < 64 := by simp [offsIndices] at hk; omega
  simp [offsIndices, hk64]

/-! ### NOP, SEAL and RELEASE -/

/-- Settles O11: a word with OPC 0x00 and another bit set has RSV ≠ 0, or SEL ≠ 0 under an opcode that must have SEL = 0,
so the decoder refuses it (O3). -/
theorem nopOnlyCompletes : Obligations.NopOnlyCompletes := by
  refine ⟨by decide, fun s => ⟨rfl, fun w hopc hrest => runWord_of_refused ?_ s⟩⟩
  refine (decodeRefusesExactlyIllegalWords w).1.mpr ?_
  by_cases hrsv : w.toNat / 2 ^ 16 = 0
  · exact .inr (.inr ⟨by rw [hopc]; decide, by omega⟩)
  · exact .inl hrsv

/-- Settles O12: one clause for each branch of `execSeal`. -/
theorem sealOutcomes : Obligations.SealOutcomes := by
  refine ⟨by decide, fun s => ⟨fun hs => ?_, fun hs hlong => ?_, fun hs hfits => ?_⟩⟩ <;> simp only [exec, execSeal]
  · rw [if_pos hs]
    rfl
  · rw [if_neg (by simp [hs]), if_pos hlong]
    rfl
  · rw [if_neg (by simp [hs]), if_neg (by omega)]
    rfl

/-- Settles O13: one clause for each branch of `execRelease`. -/
theorem releaseOutcomes : Obligations.ReleaseOutcomes := by
  refine ⟨by decide, fun s => ⟨fun hs => ?_, fun hs => ?_⟩⟩ <;> simp only [exec, execRelease]
  · rw [if_pos hs]
    rfl
  · rw [if_neg (by simp [hs])]
    rfl

/-! ### BIT and UINT -/

/-- Settles O14: an index below VLEN lies in the RAM, and one bit assembles to its own number. -/
theorem bitOutcomes : Obligations.BitOutcomes := by
  refine ⟨by decide, fun s hview => ⟨fun hs => ?_, fun hs hout => ?_, fun hs hin => ?_⟩⟩ <;>
    simp only [exec, execBit]
  · rw [if_pos hs]
    rfl
  · rw [if_neg (by simp [hs]), if_pos hout]
    rfl
  · have hone : assembled s [s.arg0.toNat] = bitNumber s s.arg0.toNat := by simp [assembled]
    rw [if_neg (by simp [hs]), if_neg (by omega),
      withBits_of_inRam (by simpa using inRam_of_lt_vlen hview hs hin), assemble_map_viewBit, hone]
    rfl

/-- Settles O15: the offsets UINT lists are those of the statement; in the view, their bits assemble to the sum. -/
theorem uintOutcomes : Obligations.UintOutcomes := by
  refine ⟨fun n hn => encode_eq_ofNat (EncodingShape.uint n) hn, fun n s hview => ?_⟩
  intro js
  have hjs : n ≤ 64 → offsIndices s n = js := offsIndices_eq_map_range s
  have hlen : js.length = n := by simp [js]
  refine ⟨fun hs => ?_, fun hs hwide => ?_, fun hs hn hout => ?_, fun hs hn hin => ⟨?_, ?_⟩⟩
  · simp only [exec, execUint]
    rw [if_pos hs]
    rfl
  · simp only [exec, execUint]
    rw [if_neg (by simp [hs]), if_pos hwide]
    rfl
  · have hbeyond : ∃ j ∈ js, s.vlen.toNat ≤ j := by simpa [js] using hout
    simp only [exec, execUint]
    rw [if_neg (by simp [hs]), if_neg (by omega), hjs hn, if_pos hbeyond]
    rfl
  · exact hlen ▸ assembled_lt s js
  · have hinside : ∀ j ∈ js, j < s.vlen.toNat := by simpa [js] using hin
    have hnone : ¬ ∃ j ∈ js, s.vlen.toNat ≤ j := fun ⟨j, hj, hle⟩ => absurd (hinside j hj) (by omega)
    simp only [exec, execUint]
    rw [if_neg (by simp [hs]), if_neg (by omega), hjs hn, if_neg hnone, extractBits_of_lt_vlen hview hs hinside, hlen]
    rfl

/-! ### SLICE and UNSLICE -/

/-- A SLICE inside the view succeeds. -/
theorem exec_slice_of_le {s : State} (hs : s.isSealed = true) (horder : s.arg0.toNat ≤ s.arg1.toNat)
    (hend : s.arg1.toNat ≤ s.vlen.toNat) :
    exec .slice s = .next (complete .ok false (setView (s.vbase + s.arg0) (s.arg1 - s.arg0) s)) := by
  simp only [exec, execSlice]
  rw [if_neg (by simp [hs]), if_neg (by omega), if_neg (by omega)]
  rfl

/-- A SLICE that completes with OK lay inside the view. -/
theorem exec_slice_ok {s t : State} (h : exec .slice s = .next t) (hok : t.err = .ok) :
    s.isSealed = true ∧ s.arg0.toNat ≤ s.arg1.toNat ∧ s.arg1.toNat ≤ s.vlen.toNat ∧
      t = complete .ok false (setView (s.vbase + s.arg0) (s.arg1 - s.arg0) s) := by
  cases exec_effect h with
  | failed e he => exact absurd hok he
  | sliced _ hs horder hend => exact ⟨hs, horder, hend, rfl⟩
  | cachedVerify _ hi | noEffect hi | sealedBuffer hi | released hi | unsliced hi | verified _ hi => cases hi
  | result hi => simp at hi

/-- Settles O17: in the view the new base does not wrap, since it stays at most BUF_LEN (10 R27). -/
theorem sliceOutcomes : Obligations.SliceOutcomes := by
  refine ⟨by decide, fun s hview => ⟨fun hs => ?_, fun hs horder => ?_, fun hs horder hend => ?_,
    fun hs horder hend => ⟨s.vbase + s.arg0, s.arg1 - s.arg0, ?_, ?_, exec_slice_of_le hs horder hend⟩⟩⟩
  · simp only [exec, execSlice]
    rw [if_pos hs]
    rfl
  · simp only [exec, execSlice]
    rw [if_neg (by simp [hs]), if_pos horder]
    rfl
  · simp only [exec, execSlice]
    rw [if_neg (by simp [hs]), if_neg (by omega), if_pos hend]
    rfl
  · obtain ⟨hbase, -⟩ := hview.1 hs
    have hbufLen := s.bufLen.isLt
    rw [BitVec.toNat_add_of_lt (by omega)]
  · exact BitVec.toNat_sub_of_le horder

/-- Settles O18: one clause for each branch of `execUnslice`. -/
theorem unsliceOutcomes : Obligations.UnsliceOutcomes := by
  refine ⟨by decide, fun s => ⟨fun hs => ?_, fun hs => ?_⟩⟩ <;> simp only [exec, execUnslice]
  · rw [if_pos hs]
    rfl
  · rw [if_neg (by simp [hs])]
    rfl

/-- A view-relative bit is a matter of VBASE and BUF. -/
theorem viewBit_congr {s t : State} (hbase : t.vbase = s.vbase) (hm : t.mem = s.mem) (hp : t.powerOns = s.powerOns)
    (j : Nat) : viewBit t j = viewBit s j := by
  rw [viewBit, viewBit, bitAbs, bitAbs, hbase, bufByte_congr hm hp]

/-- Settles O20: s1 + e2 is at most e1, so neither operand of the one slice wraps and it lies inside the first view. -/
theorem slicesCompose : Obligations.SlicesCompose := by
  intro s t u s2 e2 hst htok htu huok
  obtain ⟨hs, horder1, hend1, rfl⟩ := exec_slice_ok hst htok
  obtain ⟨-, horder2, hend2, rfl⟩ := exec_slice_ok htu huok
  have hlen : (s.arg1 - s.arg0).toNat = s.arg1.toNat - s.arg0.toNat := BitVec.toNat_sub_of_le horder1
  simp only [complete_vlen, setView_vlen, hlen] at horder2 hend2
  have harg1 := s.arg1.isLt
  have hstart : (s.arg0 + s2).toNat = s.arg0.toNat + s2.toNat := BitVec.toNat_add_of_lt (by omega)
  have hstop : (s.arg0 + e2).toNat = s.arg0.toNat + e2.toNat := BitVec.toNat_add_of_lt (by omega)
  have hbase : s.vbase + (s.arg0 + s2) = s.vbase + s.arg0 + s2 := (add_assoc _ _ _).symm
  refine ⟨_, exec_slice_of_le hs ?_ ?_, rfl, hbase, ?_, viewBit_congr hbase rfl rfl⟩
  · simp only [hstart, hstop]
    omega
  · simp only [hstop]
    omega
  · exact add_sub_add_left_eq_sub e2 s2 s.arg0

/-! ### Extraction under every validity (40 R111) -/

/-- `s` with another value in VALIDITY. -/
def setValidity (v : Validity) (s : State) : State := { s with validity := v }

/-- A result with `f` applied to its next state. -/
def mapNext (f : State → State) : Result → Result
  | .next t => .next (f t)
  | .fault r => .fault r
  | .refused r => .refused r

theorem mapNext_withBits (f : State → State) (s : State) (js : List Nat) (go : List Bool → Result) :
    mapNext f (withBits s js go) = withBits s js fun bits => mapNext f (go bits) := by
  unfold withBits
  cases readView s js <;> rfl

/-- Reading the buffer does not look at VALIDITY. -/
theorem withBits_setValidity (v : Validity) (s : State) (js : List Nat) (go : List Bool → Result) :
    withBits (setValidity v s) js go = withBits s js go := rfl

/-- An extraction command commutes with a change of VALIDITY. -/
theorem exec_setValidity {i : Instr}
    (hi : i = .bit ∨ (∃ n, i = .uint n) ∨ (∃ w, i = .field w) ∨ i = .slice ∨ i = .unslice) (v : Validity) (s : State) :
    exec i (setValidity v s) = mapNext (setValidity v) (exec i s) := by
  rcases hi with rfl | ⟨n, rfl⟩ | ⟨w, rfl⟩ | rfl | rfl
  · simp only [exec, execBit, apply_ite (mapNext _), mapNext_withBits, withBits_setValidity]
    rfl
  · simp only [exec, execUint, extractBits, apply_ite (mapNext _), mapNext_withBits, withBits_setValidity]
    rfl
  · simp only [exec, execField, extractBits, apply_ite (mapNext _), mapNext_withBits, withBits_setValidity]
    rfl
  · simp only [exec, execSlice, apply_ite (mapNext _)]
    rfl
  · simp only [exec, execUnslice, apply_ite (mapNext _)]
    rfl

/-- Only SEAL, RELEASE and VERIFY write VALIDITY (10 R38). -/
theorem exec_keeps_validity {i : Instr} {s t : State} (hseal : i ≠ .sealBuf) (hrelease : i ≠ .release)
    (hverify : ∀ a, i ≠ .verify a) (h : exec i s = .next t) : t.validity = s.validity := by
  cases exec_effect h with
  | sealedBuffer hi => exact absurd hi hseal
  | released hi => exact absurd hi hrelease
  | verified a hi => exact absurd hi (hverify a)
  | failed | cachedVerify | noEffect | sliced | unsliced | result => rfl

/-- Settles O21: a change of VALIDITY commutes with the command, which leaves it. -/
theorem fieldAccessIgnoresValidity : Obligations.FieldAccessIgnoresValidity := by
  intro i s t v hi h
  refine ⟨?_, (exec_setValidity hi v s).trans (by rw [h]; rfl)⟩
  refine exec_keeps_validity ?_ ?_ (fun a => ?_) h <;>
    rcases hi with rfl | ⟨n, rfl⟩ | ⟨w, rfl⟩ | rfl | rfl <;> simp

end Sys2Proof.Proofs
end

section
/-! PROOFS. The family 41_codecs.md: TIMER (41 R141), LAT and LON (41 R143, R144) and SCALE (41 R146). -/

namespace Sys2Proof.Proofs

open Sys2Proof.Machine Sys2Proof.Laws

/-! ### Results over two registers (00 R9, R10) -/

/-- Concatenation is arithmetic on the numbers: the right part keeps its weight, the left part is shifted past it. -/
theorem toNat_append_eq_add {m n : Nat} (x : BitVec m) (y : BitVec n) :
    (x ++ y).toNat = x.toNat * 2 ^ n + y.toNat := by
  rw [BitVec.toNat_append, ← Nat.shiftLeft_add_eq_or_of_lt y.isLt, Nat.shiftLeft_eq]

/-- A 64-bit number survives the split into RES_HI and RES_LO. -/
theorem toNat_hi32_append_lo32 {n : Nat} (hn : n < 2 ^ 64) : (hi32 n ++ lo32 n).toNat = n := by
  rw [toNat_append_eq_add, hi32, lo32, BitVec.toNat_ofNat, BitVec.toNat_ofNat]
  omega

theorem toInt_signWord (x : Int) : (signWord x).toInt = if x < 0 then -1 else 0 := by
  unfold signWord
  split <;> rfl

/-- A number of 32 bits, sign-extended over RES_HI and RES_LO, is itself. -/
theorem toInt_signWord_append_trunc32 {x : Int} (hlow : -2 ^ 31 ≤ x) (hhigh : x < 2 ^ 31) :
    (signWord x ++ trunc32 x).toInt = x := by
  rw [BitVec.toInt_append, if_neg (by decide), toInt_signWord, trunc32, BitVec.toNat_ofInt]
  split <;> omega

/-! ### Coordinates (41 R143, R144) -/

/-- The hemisphere bit and the magnitude as arithmetic on the word. -/
theorem latitude_eq (r : Word) :
    latitude r = if r.toNat / 2 ^ 31 = 1 then -((r.toNat % 2 ^ 31 : Nat) : Int) else r.toNat := by
  have hr := r.isLt
  have hmag : (r.extractLsb' 0 31).toNat = r.toNat % 2 ^ 31 := by simp
  have hbit : r.getLsbD 31 = true ↔ r.toNat / 2 ^ 31 = 1 := by
    rw [BitVec.getLsbD, Nat.testBit_eq_decide_div_mod_eq, decide_eq_true_iff]
    omega
  rw [latitude, hmag, ite_congr (propext hbit) (fun _ => rfl) (fun _ => rfl)]
  split <;> omega

/-- A magnitude has 31 bits. -/
theorem latitude_bounds (r : Word) : -2 ^ 31 < latitude r ∧ latitude r < 2 ^ 31 := by
  have hr := r.isLt
  rw [latitude_eq]
  split <;> omega

theorem hemisphere_eq (r : Word) : (0#31 ++ r.extractLsb' 31 1 : Word) = BitVec.ofNat 32 (r.toNat / 2 ^ 31) := by
  have hr := r.isLt
  refine BitVec.eq_of_toNat_eq ?_
  rw [toNat_append_eq_add, BitVec.extractLsb'_toNat, Nat.shiftRight_eq_div_pow, BitVec.toNat_ofNat, BitVec.toNat_ofNat]
  omega

/-- Settles O25: LAT sign-extends the latitude, which fits 32 bits. -/
theorem latOutcomes : Obligations.LatOutcomes := by
  refine ⟨by decide, fun s => ⟨signWord (latitude s.arg0), trunc32 (latitude s.arg0), ?_, ?_⟩⟩
  · obtain ⟨hlow, hhigh⟩ := latitude_bounds s.arg0
    rw [toInt_signWord_append_trunc32 hlow.le hhigh, latitude_eq]
  · rw [← hemisphere_eq]
    rfl

/-- Settles O26: the word is its own truncation, so LON sign-extends it. -/
theorem lonOutcomes : Obligations.LonOutcomes := by
  refine ⟨by decide, fun s => ⟨signWord s.arg0.toInt, ?_, rfl⟩⟩
  have hext : (signWord s.arg0.toInt ++ s.arg0).toInt = s.arg0.toInt := by
    simpa [trunc32] using toInt_signWord_append_trunc32 s.arg0.le_toInt s.arg0.toInt_lt
  rw [hext, BitVec.toInt_eq_toNat_cond]
  split <;> split <;> omega

/-! ### SCALE (41 R146) -/

/-- NUM of a row of the scale table. -/
def scaleNum (f : Nat) : Nat := if f = 0 then 2 else 1

/-- DEN of a row of the scale table. -/
def scaleDen (f : Nat) : Nat := if f = 0 then 1 else 100

theorem scaleRow_of_le {f : Nat} (hf : f ≤ 2) : scaleRow f = some ⟨scaleNum f, scaleDen f, f⟩ := by
  interval_cases f <;> rfl

theorem scaleRow_of_gt {f : Nat} (hf : 2 < f) : scaleRow f = none := by
  match f, hf with
  | _ + 3, _ => rfl

/-- The product of a raw word and a NUM, unreduced, is below 2^64. -/
theorem mul_scaleNum_lt (raw : Word) (f : Nat) : raw.toNat * scaleNum f < 2 ^ 64 := by
  have hraw := raw.isLt
  unfold scaleNum
  split <;> omega

/-- A SCALE by a row of the table succeeds. -/
theorem exec_scale_of_le {f : Nat} (hf : f ≤ 2) (s : State) :
    exec (.scale f) s = .next (complete .ok false (setResult (lo32 (s.arg0.toNat * scaleNum f))
      (hi32 (s.arg0.toNat * scaleNum f)) (lo32 (scaleDen f ||| f <<< 16)) s)) := by
  simp only [exec, execScale, scaleRow_of_le hf]
  rfl

/-- DEN and the unit code do not overlap in RES_AUX. -/
theorem toNat_scaleAux {f : Nat} (hf : f ≤ 2) :
    (lo32 (scaleDen f ||| f <<< 16)).toNat = scaleDen f + f * 2 ^ 16 := by
  interval_cases f <;> rfl

/-- Settles O27: the product fits the two result registers, so it is exact. -/
theorem scaleOutcomes : Obligations.ScaleOutcomes := by
  refine ⟨fun f hf => encode_eq_ofNat (EncodingShape.scale f) hf, fun f s => ⟨fun hf => ?_, fun hf =>
    ⟨_, _, _, toNat_hi32_append_lo32 (mul_scaleNum_lt s.arg0 f), toNat_scaleAux hf, exec_scale_of_le hf s⟩⟩⟩
  simp only [exec, execScale, scaleRow_of_gt hf]
  rfl

/-! ### The band decode (41 R141) -/

/-- The lowest covering band decides the search. -/
theorem searchBands_of_first {raw : Nat} {bs : List Band} {i : Nat} (hi : i < bs.length) (hcov : bs[i].Covers raw)
    (hfirst : ∀ (j : Nat) (hj : j < i), ¬ bs[j].Covers raw) (k : Nat) :
    searchBands raw bs k = ⟨.value, bs[i].scale raw, bs[i].unit, k + i⟩ := by
  rcases searchBands_cases raw bs k with ⟨pre, b, post, rfl, hpre, hb, hfound⟩ | ⟨hnone, -⟩
  · have hlen : pre.length = i := by
      rcases lt_trichotomy pre.length i with hlt | heq | hgt
      · exact absurd hb (by simpa using hfirst pre.length hlt)
      · exact heq
      · exact absurd hcov (by simpa [hgt] using hpre pre[i] (List.getElem_mem hgt))
    subst hlen
    simpa using hfound
  · exact absurd hcov (hnone _ (List.getElem_mem hi))

theorem searchBands_of_none {raw : Nat} {bs : List Band} (hnone : ∀ b ∈ bs, ¬ b.Covers raw) (k : Nat) :
    searchBands raw bs k = ⟨.noBand, 0, 0, 0⟩ := by
  rcases searchBands_cases raw bs k with ⟨pre, b, post, rfl, -, hb, -⟩ | ⟨-, hmiss⟩
  · exact absurd hb (hnone b (by simp))
  · exact hmiss

theorem decodeTimer_zero (w : Nat) (bs : List Band) : decodeTimer w bs 0 = ⟨.internal, 0, 0, 0⟩ := if_pos rfl

theorem decodeTimer_max {w : Nat} (hw : 1 ≤ w) (bs : List Band) :
    decodeTimer w bs (2 ^ w - 1) = ⟨.infinity, 0, 0, 0⟩ := by
  have hpow : 2 ≤ 2 ^ w := Nat.le_self_pow (by omega) 2
  rw [decodeTimer, if_neg (by omega), if_pos rfl]

/-- Between the sentinels the lowest covering band of the table gives the number. -/
theorem decodeTimer_of_first {w raw : Nat} (hpos : 0 < raw) (hmax : raw < 2 ^ w - 1) {bands : Vector Band 8} {b : Fin 8}
    (hcov : bands[b].Covers raw) (hfirst : ∀ c < b, ¬ bands[c].Covers raw) :
    decodeTimer w bands.toList raw = ⟨.value, bands[b].scale raw, bands[b].unit, b⟩ := by
  rw [decodeTimer, if_neg (by omega), if_neg (by omega)]
  simpa using searchBands_of_first (bs := bands.toList) (i := b) (by simp) (by simpa using hcov)
    (fun j hj => by simpa using hfirst ⟨j, by omega⟩ hj) 0

theorem decodeTimer_of_none {w raw : Nat} (hpos : 0 < raw) (hmax : raw < 2 ^ w - 1) {bands : Vector Band 8}
    (hnone : ∀ b : Fin 8, ¬ bands[b].Covers raw) : decodeTimer w bands.toList raw = ⟨.noBand, 0, 0, 0⟩ := by
  rw [decodeTimer, if_neg (by omega), if_neg (by omega)]
  refine searchBands_of_none (fun b hb => ?_) 0
  obtain ⟨i, hi, rfl⟩ := List.getElem_of_mem hb
  simpa using hnone ⟨i, by simpa using hi⟩

/-- A 16-bit raw value times a 16-bit MULT plus a 16-bit OFFSET fits 32 bits. -/
theorem toInt_trunc32_scale (b : Band) {raw : Nat} (hraw : raw < 2 ^ 16) :
    (trunc32 (b.scale raw)).toInt = b.scale raw := by
  have hlow : raw * -2 ^ 15 ≤ raw * b.mult.toInt := mul_le_mul_of_nonneg_left b.mult.le_toInt raw.cast_nonneg
  have hhigh : raw * b.mult.toInt ≤ raw * (2 ^ 15 - 1) :=
    mul_le_mul_of_nonneg_left (Int.le_sub_one_of_lt b.mult.toInt_lt) raw.cast_nonneg
  have holow := b.offset.le_toInt
  have hohigh := b.offset.toInt_lt
  refine BitVec.toInt_ofInt_eq_self (by decide) ?_ ?_ <;> unfold Band.scale <;> omega

/-- RES_AUX as a number: the kind below, the unit above it. -/
theorem timerAux_eq_ofNat (d : TimerDecode) :
    d.aux = BitVec.ofNat 32 (4 * d.unit.toNat + d.kind.code.toNat) := by
  refine BitVec.eq_of_toNat_eq ?_
  rw [TimerDecode.aux, toNat_append_eq_add, toNat_append_eq_add, BitVec.toNat_ofNat, BitVec.toNat_ofNat]
  omega

/-! ### TIMER -/

theorem exec_timer_of_no_table {t : Nat} (ht : 3 < t) (s : State) :
    exec (.timer t) s = .next (complete .badArg false s) := by
  simp only [exec, execTimer, Vector.getElem?_eq_none ht]
  rfl

theorem exec_timer_badArg {t : Nat} (ht : t < 4) {s : State}
    (hbad : s.tcfg[t].toNat = 0 ∨ 16 < s.tcfg[t].toNat ∨ 2 ^ s.tcfg[t].toNat ≤ s.arg0.toNat) :
    exec (.timer t) s = .next (complete .badArg false s) := by
  simp only [exec, execTimer, Vector.getElem?_eq_getElem ht]
  split_ifs with hwidth hraw
  · rfl
  · rfl
  · exact absurd hbad (by omega)

/-- A raw value that fits a legal width completes with its decode. -/
theorem exec_timer_of_legal {t : Nat} (ht : t < 4) {s : State} (hw1 : 1 ≤ s.tcfg[t].toNat)
    (hw16 : s.tcfg[t].toNat ≤ 16) (hraw : s.arg0.toNat < 2 ^ s.tcfg[t].toNat) {d : TimerDecode}
    (hd : decodeTimer s.tcfg[t].toNat s.bands[t].toList s.arg0.toNat = d) :
    exec (.timer t) s = .next (complete .ok false (setResult (trunc32 d.value) (lo32 d.band) d.aux s)) := by
  simp only [exec, execTimer, Vector.getElem?_eq_getElem ht]
  rw [if_neg (by omega), if_neg (by omega), hd]
  rfl

/-- Settles O23: the sentinels are decoded before any band; between them the lowest covering band decides, and its
number fits RES_LO since W ≤ 16 bounds the raw value. -/
theorem timerOutcomes : Obligations.TimerOutcomes := by
  refine ⟨fun t ht => encode_eq_ofNat (EncodingShape.timer t) ht, fun t s =>
    ⟨fun ht => exec_timer_of_no_table ht s, fun ht => ?_⟩⟩
  dsimp only
  refine ⟨exec_timer_badArg ht, fun hw1 hw16 hzero => ?_, fun hw1 hw16 hmax => ?_,
    fun hw1 hw16 hpos hlt => ⟨fun b hen hlo hhi hfirst => ?_, fun hnone => ?_⟩⟩
  · refine exec_timer_of_legal ht hw1 hw16 ?_ (d := ⟨.internal, 0, 0, 0⟩) ?_ <;> rw [hzero]
    · exact Nat.two_pow_pos _
    · exact decodeTimer_zero _ _
  · refine exec_timer_of_legal ht hw1 hw16 ?_ (d := ⟨.infinity, 0, 0, 0⟩) ?_ <;> rw [hmax]
    · exact Nat.sub_one_lt (Nat.two_pow_pos _).ne'
    · exact decodeTimer_max hw1 _
  · have hraw : s.arg0.toNat < 2 ^ 16 :=
      lt_of_lt_of_le (by omega) (Nat.pow_le_pow_right (by decide) hw16)
    refine ⟨_, toInt_trunc32_scale s.bands[t][b] hraw, ?_⟩
    rw [exec_timer_of_legal ht hw1 hw16 (by omega) (decodeTimer_of_first hpos hlt ⟨hen, hlo, hhi⟩ hfirst),
      timerAux_eq_ofNat]
    rfl
  · exact exec_timer_of_legal ht hw1 hw16 (by omega) (decodeTimer_of_none hpos hlt hnone)

end Sys2Proof.Proofs
end

section
/-! PROOFS. The family 42_integrity.md: the CRC engine as division over GF(2) (42 R170), as parity (42 R171), and its
sensitivity to one bit (42 R180). -/

namespace Sys2Proof.Proofs

open Sys2Proof.Machine Polynomial

/-! ### The CRC engine (42 R170) -/

/-- The shift register after `bits`, before XOROUT (42 R170). -/
def crcRegister (slot : AlgSlot) (bits : List Bool) : Nat :=
  bits.foldl (crcStep slot.width.toNat (slot.poly.toNat % 2 ^ slot.width.toNat))
    (slot.init.toNat % 2 ^ slot.width.toNat)

theorem crc_eq_crcRegister (slot : AlgSlot) (bits : List Bool) :
    crc slot bits = crcRegister slot bits ^^^ slot.xorout.toNat % 2 ^ slot.width.toNat := by
  simp only [crc, crcRegister, and_crcMask]

theorem crcRegister_append_singleton (slot : AlgSlot) (bits : List Bool) (b : Bool) :
    crcRegister slot (bits ++ [b]) =
      crcStep slot.width.toNat (slot.poly.toNat % 2 ^ slot.width.toNat) (crcRegister slot bits) b :=
  List.foldl_concat ..

theorem crcRegister_lt (slot : AlgSlot) (bits : List Bool) : crcRegister slot bits < 2 ^ slot.width.toNat := by
  have hpos := Nat.two_pow_pos slot.width.toNat
  induction bits using List.reverseRecOn with
  | nil => exact Nat.mod_lt _ hpos
  | append_singleton bits b ih =>
    rw [crcRegister_append_singleton]
    exact crcStep_lt (Nat.mod_lt _ hpos) b

theorem crc_lt (slot : AlgSlot) (bits : List Bool) : crc slot bits < 2 ^ slot.width.toNat := by
  rw [crc_eq_crcRegister]
  exact Nat.xor_lt_two_pow (crcRegister_lt slot bits) (Nat.mod_lt _ (Nat.two_pow_pos _))

/-- A step shifts left within `w` bits and adds the polynomial when the bit shifted out differs from the bit of the
data. -/
theorem crcStep_eq (w p r : Nat) (b : Bool) :
    crcStep w p r b = (2 * r % 2 ^ w) ^^^ (if r.testBit (w - 1) != b then p else 0) := by
  simp only [crcStep, and_crcMask, Nat.shiftLeft_eq, pow_one, mul_comm r]
  split <;> simp

/-! ### Division over GF(2) (42 R170) -/

/-- The polynomial of the low `w` bits of a number: bit i is the coefficient of x^i. -/
noncomputable def bitPoly (w n : Nat) : (ZMod 2)[X] :=
  ∑ i ∈ Finset.range w, if n.testBit i then (X ^ i : (ZMod 2)[X]) else 0

/-- The generator G(x) = x^W + P(x). -/
noncomputable def generator (w p : Nat) : (ZMod 2)[X] := X ^ w + bitPoly w p

/-- The polynomial of a bit sequence, the first bit the highest power. -/
noncomputable def dataPoly (bits : List Bool) : (ZMod 2)[X] :=
  bits.foldl (fun q b => q * X + if b then 1 else 0) 0

theorem coeff_bitPoly (w n k : Nat) : (bitPoly w n).coeff k = if k < w ∧ n.testBit k then 1 else 0 := by
  simp only [bitPoly, finsetSum_coeff, apply_ite (coeff · k), coeff_X_pow, coeff_zero]
  by_cases hk : k < w
  · rw [Finset.sum_eq_single_of_mem k (Finset.mem_range.mpr hk)]
    · simp [hk]
    · intro i _ hi
      simp [hi.symm]
  · rw [Finset.sum_eq_zero]
    · simp [hk]
    · intro i hi
      have : k ≠ i := by simp at hi; omega
      simp [this]

theorem degree_bitPoly_lt (w n : Nat) : (bitPoly w n).degree < w := by
  rw [degree_lt_iff_coeff_zero]
  intro k hk
  rw [coeff_bitPoly, if_neg (by omega)]

theorem bitPoly_mod (w n : Nat) : bitPoly w (n % 2 ^ w) = bitPoly w n := by
  ext k
  rw [coeff_bitPoly, coeff_bitPoly, Nat.testBit_mod_two_pow]
  refine if_congr ?_ rfl rfl
  simp

theorem bitPoly_xor (w m n : Nat) : bitPoly w (m ^^^ n) = bitPoly w m + bitPoly w n := by
  ext k
  simp only [coeff_add, coeff_bitPoly, Nat.testBit_xor]
  by_cases hk : k < w
  · cases m.testBit k <;> cases n.testBit k <;> simp [hk, CharTwo.add_self_eq_zero]
  · simp [hk]

theorem bitPoly_zero (w : Nat) : bitPoly w 0 = 0 := by simp [bitPoly]

/-- Multiplication by x is the shift within `w` bits and the bit shifted out. -/
theorem X_mul_bitPoly {w : Nat} (hw : 1 ≤ w) (r : Nat) :
    X * bitPoly w r = bitPoly w (2 * r % 2 ^ w) + if r.testBit (w - 1) then X ^ w else 0 := by
  obtain ⟨v, rfl⟩ := Nat.exists_eq_add_of_le' hw
  rw [bitPoly_mod, bitPoly, bitPoly, Finset.sum_range_succ, Finset.sum_range_succ', mul_add, Finset.mul_sum]
  simp [Nat.testBit_succ, pow_succ']

/-- One step of the engine is one step of the division: multiply by x, add the bit of the data at x^W, and subtract the
generator when the leading coefficient is 1. -/
theorem bitPoly_crcStep {w : Nat} (hw : 1 ≤ w) (p r : Nat) (b : Bool) :
    bitPoly w (crcStep w p r b) =
      X * bitPoly w r + (if b then 1 else 0) * X ^ w + if r.testBit (w - 1) != b then generator w p else 0 := by
  rw [X_mul_bitPoly hw, crcStep_eq, bitPoly_xor, generator]
  have hcancel : (X ^ w + X ^ w : (ZMod 2)[X]) = 0 := CharTwo.add_self_eq_zero _
  cases r.testBit (w - 1) <;> cases b <;>
    simp only [bne_self_eq_false, Bool.false_bne, Bool.true_bne, Bool.not_false, Bool.false_eq_true, if_true, if_false,
      bitPoly_zero]
  · ring
  · linear_combination -hcancel
  · linear_combination -hcancel
  · linear_combination -hcancel

theorem monic_generator (w p : Nat) : (generator w p).Monic := monic_X_pow_add (degree_bitPoly_lt w p)

/-- The generator has degree W, since P has a lower one. -/
theorem degree_generator (w p : Nat) : (generator w p).degree = w := by
  rw [generator, degree_add_eq_left_of_degree_lt] <;> rw [degree_X_pow]
  exact degree_bitPoly_lt w p

/-- The shift register is congruent to INIT·x^L + data·x^W modulo the generator. -/
theorem generator_dvd_crcRegister_sub {slot : AlgSlot} (hw : 1 ≤ slot.width.toNat) (bits : List Bool) :
    generator slot.width.toNat slot.poly.toNat ∣ bitPoly slot.width.toNat (crcRegister slot bits) -
      (bitPoly slot.width.toNat slot.init.toNat * X ^ bits.length + dataPoly bits * X ^ slot.width.toNat) := by
  induction bits using List.reverseRecOn with
  | nil => simp [crcRegister, dataPoly, bitPoly_mod]
  | append_singleton bits b ih =>
    obtain ⟨q, hq⟩ := ih
    have hdata : dataPoly (bits ++ [b]) = dataPoly bits * X + if b then 1 else 0 := List.foldl_concat ..
    have hgen : generator slot.width.toNat (slot.poly.toNat % 2 ^ slot.width.toNat) =
        generator slot.width.toNat slot.poly.toNat := by rw [generator, bitPoly_mod, generator]
    rw [crcRegister_append_singleton, bitPoly_crcStep hw, hgen, hdata, List.length_append, List.length_singleton]
    refine ⟨X * q + if (crcRegister slot bits).testBit (slot.width.toNat - 1) != b then 1 else 0, ?_⟩
    rw [mul_add, mul_ite, mul_one, mul_zero]
    linear_combination X * hq

/-- Settles O32: the register is the representative of degree below W of its class modulo the generator. -/
theorem crcIsPolynomialRemainder : Obligations.CrcIsPolynomialRemainder := by
  intro slot bits hw _
  refine ⟨crc_lt slot bits, ?_⟩
  have hmod := modByMonic_eq_of_dvd_sub (monic_generator slot.width.toNat slot.poly.toNat)
    (generator_dvd_crcRegister_sub hw bits)
  have hself : bitPoly slot.width.toNat (crcRegister slot bits) %ₘ generator slot.width.toNat slot.poly.toNat =
      bitPoly slot.width.toNat (crcRegister slot bits) := by
    rw [modByMonic_eq_self_iff (monic_generator ..), degree_generator]
    exact degree_bitPoly_lt ..
  rw [crc_eq_crcRegister]
  refine (bitPoly_xor ..).trans ?_
  rw [bitPoly_mod, ← hself, hmod]
  rfl

/-! ### Parity (42 R171) -/

/-- With W = 1 and POLY = 1 a step is `reg <- reg xor b`. -/
theorem crcStep_one {p r : Nat} (hp : p % 2 = 1) (hr : r < 2) (b : Bool) :
    crcStep 1 (p % 2) r b = (r + b.toNat) % 2 := by
  rw [hp]
  interval_cases r <;> cases b <;> rfl

/-- Settles O33: each step adds its bit modulo 2, and so does XOROUT. -/
theorem widthOneCrcIsParity : Obligations.WidthOneCrcIsParity := by
  intro slot bits hwidth hpoly
  have hw : slot.width.toNat = 1 := by rw [hwidth]; rfl
  have hp : slot.poly.toNat % 2 = 1 := by
    simpa [BitVec.getLsbD, Nat.testBit_zero] using hpoly
  have hregister : crcRegister slot bits = (slot.init.toNat + bits.count true) % 2 := by
    induction bits using List.reverseRecOn with
    | nil => simp [crcRegister, hw]
    | append_singleton bits b ih =>
      rw [crcRegister_append_singleton, hw, pow_one, crcStep_one hp (by omega), ih, List.count_append]
      cases b
      · simp
      · simp
        omega
  rw [crc_eq_crcRegister, hregister, hw, pow_one]
  have hlt : (slot.init.toNat + bits.count true) % 2 ^^^ slot.xorout.toNat % 2 < 2 ^ 1 :=
    Nat.xor_lt_two_pow (Nat.mod_lt _ (by decide)) (Nat.mod_lt _ (by decide))
  rw [← Nat.mod_eq_of_lt hlt, pow_one, Nat.xor_mod_two_eq, ← Nat.add_mod]

/-! ### Sensitivity to one bit (42 R180) -/

/-- With POLY odd, bit 0 of the register tells whether the polynomial was added. -/
theorem testBit_zero_crcStep {p : Nat} (hp : p.testBit 0 = true) (w r : Nat) (b : Bool) :
    (crcStep w p r b).testBit 0 = (r.testBit (w - 1) != b) := by
  have heven : (2 * r % 2 ^ w).testBit 0 = false := by simp
  rw [crcStep_eq, Nat.testBit_xor, heven, Bool.false_xor]
  cases r.testBit (w - 1) != b
  · simp
  · exact hp

/-- With POLY odd a step loses nothing: once its result is given, the register before it and the bit of the data
determine each other. -/
theorem eq_iff_eq_of_crcStep_eq {w p r r' : Nat} {b b' : Bool} (hw : 1 ≤ w) (hp : p.testBit 0 = true) (hr : r < 2 ^ w)
    (hr' : r' < 2 ^ w) (h : crcStep w p r b = crcStep w p r' b') : r = r' ↔ b = b' := by
  obtain ⟨v, rfl⟩ := Nat.exists_eq_add_of_le' hw
  have htop : (r.testBit v != b) = (r'.testBit v != b') := by
    have hlow := congrArg (Nat.testBit · 0) h
    simpa only [testBit_zero_crcStep hp, Nat.add_sub_cancel] using hlow
  have hshifted : 2 * r % 2 ^ (v + 1) = 2 * r' % 2 ^ (v + 1) := by
    simp only [crcStep_eq, Nat.add_sub_cancel, htop] at h
    exact Nat.xor_left_inj.mp h
  have hlow : r % 2 ^ v = r' % 2 ^ v := by
    rw [pow_succ', Nat.mul_mod_mul_left, Nat.mul_mod_mul_left] at hshifted
    omega
  refine ⟨fun hreg => ?_, fun hb => Nat.eq_of_testBit_eq fun i => ?_⟩
  · simpa [hreg] using htop
  · rcases lt_trichotomy i v with hlt | rfl | hgt
    · have hbit := congrArg (Nat.testBit · i) hlow
      simpa [Nat.testBit_mod_two_pow, hlt] using hbit
    · simpa [hb] using htop
    · rw [Nat.testBit_lt_two_pow (hr.trans_le (Nat.pow_le_pow_right two_pos hgt)),
        Nat.testBit_lt_two_pow (hr'.trans_le (Nat.pow_le_pow_right two_pos hgt))]

/-- With POLY odd, one changed bit changes the CRC: the registers differ after it, and no later step joins them. -/
theorem crc_ne_of_bit_changed {slot : AlgSlot} (hw : 1 ≤ slot.width.toNat) (hp : slot.poly.getLsbD 0 = true)
    (before after : List Bool) (b : Bool) :
    crc slot (before ++ b :: after) ≠ crc slot (before ++ (!b) :: after) := by
  have hodd : (slot.poly.toNat % 2 ^ slot.width.toNat).testBit 0 = true := by
    rw [Nat.testBit_mod_two_pow, decide_eq_true (Nat.lt_of_succ_le hw)]
    exact hp
  have hregister : crcRegister slot (before ++ b :: after) ≠ crcRegister slot (before ++ (!b) :: after) := by
    induction after using List.reverseRecOn with
    | nil =>
      intro h
      rw [crcRegister_append_singleton, crcRegister_append_singleton] at h
      have hb := (eq_iff_eq_of_crcStep_eq hw hodd (crcRegister_lt slot before) (crcRegister_lt slot before) h).mp rfl
      cases b <;> cases hb
    | append_singleton after c ih =>
      intro h
      rw [← List.cons_append, ← List.append_assoc, ← List.cons_append, ← List.append_assoc,
        crcRegister_append_singleton, crcRegister_append_singleton] at h
      exact ih ((eq_iff_eq_of_crcStep_eq hw hodd (crcRegister_lt slot _) (crcRegister_lt slot _) h).mpr rfl)
  rw [crc_eq_crcRegister, crc_eq_crcRegister]
  exact fun h => hregister (Nat.xor_left_inj.mp h)

/-- One changed bit changes the number that bits assemble to. -/
theorem assemble_ne_of_bit_changed (before after : List Bool) (b : Bool) :
    assemble (before ++ b :: after) ≠ assemble (before ++ (!b) :: after) := by
  simp only [assemble_append, assemble_cons, List.length_cons]
  cases b <;> simp

/-- Bits read at distinct indices, one of which changed: one bit of the list is the other way. -/
theorem exists_map_eq_of_bit_changed {f g : Nat → Bool} {j : Nat} {js : List Nat} (hnodup : js.Nodup) (hj : j ∈ js)
    (hg : ∀ k, g k = if k = j then !f j else f k) :
    ∃ before b after, js.map f = before ++ b :: after ∧ js.map g = before ++ (!b) :: after := by
  obtain ⟨l, r, rfl⟩ := List.append_of_mem hj
  obtain ⟨-, hr, hdisjoint⟩ := List.nodup_append.mp hnodup
  have hsame : ∀ k, k ≠ j → g k = f k := fun k hk => by rw [hg, if_neg hk]
  have hbefore : l.map g = l.map f :=
    List.map_congr_left fun k hk => hsame k (hdisjoint k hk j List.mem_cons_self)
  have hafter : r.map g = r.map f :=
    List.map_congr_left fun k hk => hsame k fun h => (List.nodup_cons.mp hr).1 (h ▸ hk)
  have hchanged : g j = !f j := by rw [hg, if_pos rfl]
  exact ⟨l.map f, f j, r.map f, by simp, by simp [hbefore, hafter, hchanged]⟩

/-- With POLY odd, a CRC over some bits that matches a number read at other bits no longer does after one of all these
bits changed: it is read once, so one side changes and the other does not. -/
theorem crc_ne_assemble_of_bit_changed {slot : AlgSlot} (hw : 1 ≤ slot.width.toNat) (hp : slot.poly.getLsbD 0 = true)
    {f g : Nat → Bool} {prot check : List Nat} {j : Nat} (hnodup : (prot ++ check).Nodup) (hj : j ∈ prot ++ check)
    (hg : ∀ k, g k = if k = j then !f j else f k) (hmatch : crc slot (prot.map f) = assemble (check.map f)) :
    crc slot (prot.map g) ≠ assemble (check.map g) := by
  obtain ⟨hprotNodup, hcheckNodup, hapart⟩ := List.nodup_append.mp hnodup
  have hsame : ∀ js : List Nat, (∀ k ∈ js, k ≠ j) → js.map g = js.map f := fun js hout =>
    List.map_congr_left fun k hk => (hg k).trans (if_neg (hout k hk))
  rcases List.mem_append.mp hj with hprot | hcheck
  · obtain ⟨before, b, after, hbits, hchanged⟩ := exists_map_eq_of_bit_changed hprotNodup hprot hg
    rw [hsame check fun k hk => (hapart j hprot k hk).symm, ← hmatch, hbits, hchanged]
    exact (crc_ne_of_bit_changed hw hp before after b).symm
  · obtain ⟨before, b, after, hbits, hchanged⟩ := exists_map_eq_of_bit_changed hcheckNodup hcheck hg
    rw [hsame prot fun k hk => hapart k hk j hcheck, hmatch, hbits, hchanged]
    exact assemble_ne_of_bit_changed before after b

end Sys2Proof.Proofs
end

section
/-! PROOFS. The family 42_integrity.md: the protected range (42 R172), VERIFY (42 R174, R178 to R180) and CRCCALC
(42 R175). -/

namespace Sys2Proof.Proofs

open Sys2Proof.Machine Sys2Proof.Safety Sys2Proof.Laws

/-! ### The protected range (42 R172) -/

theorem fieldIndices_eq_span (start width : Nat) : fieldIndices start width = span start width :=
  List.range'_eq_map_range

theorem bitsAt_eq_map_viewBit (s : State) (js : List Nat) : bitsAt s js = js.map (viewBit s) := by
  refine List.map_congr_left fun j _ => ?_
  rw [← toNat_viewBit]
  cases viewBit s j <;> rfl

/-- The first `n` entries of a list by their numbers; entries beyond its end are the default, of which `f` makes
nothing. -/
theorem flatMap_take_eq_flatMap_range {α β : Type} (l : List α) {d : α} {f : α → List β} (hd : f d = []) (n : Nat) :
    (l.take n).flatMap f = (List.range n).flatMap fun k => f (l.getD k d) := by
  induction l generalizing n with
  | nil => simp [hd]
  | cons x l ih =>
    cases n with
    | zero => rfl
    | succ n => simp [List.range_succ_eq_map, List.flatMap_map, ih]

theorem protIndices_eq_protectedSpan (s : State) : protIndices s = protectedSpan s := by
  simp only [protIndices, activeSegments, protectedSpan, segmentAt, fieldIndices_eq_span]
  exact flatMap_take_eq_flatMap_range _ rfl _

/-- The segments in use, by their numbers; a segment beyond the table has LEN 0. -/
theorem exists_mem_activeSegments_iff (s : State) :
    (∃ g ∈ activeSegments s, g.OutOfView s) ↔ SegmentBeyondView s := by
  simp only [activeSegments, List.mem_take_iff_getElem, SegmentBeyondView, segmentAt]
  constructor
  · rintro ⟨g, ⟨k, hk, rfl⟩, hout⟩
    refine ⟨k, by omega, ?_⟩
    rwa [List.getD_eq_getElem _ _ (by omega)]
  · rintro ⟨k, hk, hout⟩
    have hlen : k < s.seg.toList.length := by
      by_contra hge
      rw [List.getD_eq_default _ _ (by omega)] at hout
      simp at hout
    rw [List.getD_eq_getElem _ _ hlen] at hout
    exact ⟨_, ⟨k, by omega, rfl⟩, hout⟩

theorem protError_of_count {s : State} (h : 16 < s.segCount.toNat) : protError s = some .badArg := if_pos h

theorem protError_of_beyondView {s : State} (hcount : s.segCount.toNat ≤ 16) (h : SegmentBeyondView s) :
    protError s = some .bounds := by
  rw [protError, if_neg (by omega), if_pos ((exists_mem_activeSegments_iff s).mpr h)]

theorem protError_eq_none_iff (s : State) : protError s = none ↔ s.segCount.toNat ≤ 16 ∧ ¬ SegmentBeyondView s := by
  rw [← exists_mem_activeSegments_iff, protError]
  split_ifs with hcount hbeyond
  · simp [hcount]
  · simp [hbeyond]
  · simp [hbeyond, Nat.le_of_not_lt hcount]

theorem mem_span {j start width : Nat} : j ∈ span start width ↔ start ≤ j ∧ j < start + width := by
  rw [← fieldIndices_eq_span]
  exact List.mem_range'_1

/-- With no segment beyond the view, every protected bit lies in it. -/
theorem lt_vlen_of_mem_protectedSpan {s : State} (h : ¬ SegmentBeyondView s) {j : Nat} (hj : j ∈ protectedSpan s) :
    j < s.vlen.toNat := by
  obtain ⟨k, hk, hspan⟩ := List.mem_flatMap.mp hj
  obtain ⟨hstart, hend⟩ := mem_span.mp hspan
  by_contra hout
  exact h ⟨k, List.mem_range.mp hk, by omega, by omega⟩

/-! ### The checks that VERIFY and CRCCALC share (42 R174, R175) -/

/-- The slot, its width and the segments checked in this order, then `go` on the slot. -/
def withSlot (a : Nat) (s : State) (go : AlgSlot → Result) : Result :=
  match s.alg[a]? with
  | none => raiseError .badArg s
  | some slot =>
    if slot.BadWidth then raiseError .badArg s
    else match protError s with
      | some e => raiseError e s
      | none => go slot

theorem withSlot_of_no_slot {a : Nat} (ha : 3 < a) (s : State) (go : AlgSlot → Result) :
    withSlot a s go = .next (complete .badArg false s) := by
  simp only [withSlot, Vector.getElem?_eq_none ha]
  rfl

theorem withSlot_of_badWidth {a : Nat} (ha : a < 4) {s : State} (hw : s.alg[a].BadWidth) (go : AlgSlot → Result) :
    withSlot a s go = .next (complete .badArg false s) := by
  simp only [withSlot, Vector.getElem?_eq_getElem ha, if_pos hw]
  rfl

theorem withSlot_of_protError {a : Nat} (ha : a < 4) {s : State} (hw : ¬ s.alg[a].BadWidth) {e : ErrCode}
    (he : protError s = some e) (go : AlgSlot → Result) : withSlot a s go = .next (complete e false s) := by
  simp only [withSlot, Vector.getElem?_eq_getElem ha, if_neg hw, he]
  rfl

theorem withSlot_of_legal {a : Nat} (ha : a < 4) {s : State} (hw : ¬ s.alg[a].BadWidth) (he : protError s = none)
    (go : AlgSlot → Result) : withSlot a s go = go s.alg[a] := by
  simp only [withSlot, Vector.getElem?_eq_getElem ha, if_neg hw, he]

/-- Everything the shared checks can do for a slot that exists. -/
theorem withSlot_cases {a : Nat} (ha : a < 4) (s : State) (go : AlgSlot → Result) :
    (∃ e, withSlot a s go = .next (complete e false s)) ∨
      (¬ s.alg[a].BadWidth ∧ protError s = none ∧ withSlot a s go = go s.alg[a]) := by
  by_cases hw : s.alg[a].BadWidth
  · exact .inl ⟨_, withSlot_of_badWidth ha hw go⟩
  · cases he : protError s with
    | some e => exact .inl ⟨e, withSlot_of_protError ha hw he go⟩
    | none => exact .inr ⟨hw, rfl, withSlot_of_legal ha hw he go⟩

/-! ### VERIFY (42 R174) -/

/-- The state that the first VERIFY of a sealed phase leaves when every check passed (42 R174). -/
def verified (slot : AlgSlot) (s : State) : State :=
  let computed := crc slot (bitsAt s (protectedSpan s))
  let received := assembled s (span s.arg0.toNat slot.width.toNat)
  complete .ok false (setResult (lo32 computed) (lo32 received) (lo32 (protectedSpan s).length)
    { s with validity := verdict computed received })

/-- Every bit that VERIFY by `slot` reads lies in a byte that exists. -/
def ReadsInRam (slot : AlgSlot) (s : State) : Prop :=
  ∀ j ∈ protectedSpan s ++ span s.arg0.toNat slot.width.toNat, InRam s j

theorem exec_verify_of_unsealed {s : State} (hs : s.isSealed = false) (a : Nat) :
    exec (.verify a) s = .next (complete .notSealed false s) := if_pos hs

theorem exec_verify_of_validity {s : State} (hs : s.isSealed = true) (hv : s.validity ≠ .none) (a : Nat) :
    exec (.verify a) s = .next (complete .ok true s) :=
  (if_neg (by simp [hs])).trans (if_pos hv)

/-- VERIFY with a slot whose checks passed: the check field, then the CRC. -/
def verifyBySlot (s : State) (slot : AlgSlot) : Result :=
  if s.vlen.toNat < s.arg0.toNat + slot.width.toNat then raiseError .bounds s
  else
    withBits s (protIndices s) fun bits =>
    withBits s (fieldIndices s.arg0.toNat slot.width.toNat) fun check =>
      finish (setResult (lo32 (crc slot bits)) (lo32 (assemble check)) (lo32 bits.length)
        { s with validity := verdict (crc slot bits) (assemble check) })

theorem exec_verify_of_fresh {s : State} (hs : s.isSealed = true) (hv : s.validity = .none) (a : Nat) :
    exec (.verify a) s = withSlot a s (verifyBySlot s) :=
  (if_neg (by simp [hs])).trans (if_neg (by simp [hv]))

theorem verifyBySlot_of_beyondView {s : State} {slot : AlgSlot}
    (h : s.vlen.toNat < s.arg0.toNat + slot.width.toNat) :
    verifyBySlot s slot = .next (complete .bounds false s) := if_pos h

theorem verifyBySlot_eq_next {s t : State} {slot : AlgSlot} (hc : s.arg0.toNat + slot.width.toNat ≤ s.vlen.toNat) :
    verifyBySlot s slot = .next t ↔ ReadsInRam slot s ∧ t = verified slot s := by
  rw [verifyBySlot, if_neg (by omega), withBits_eq_next, withBits_eq_next, fieldIndices_eq_span,
    protIndices_eq_protectedSpan, assemble_map_viewBit, ← bitsAt_eq_map_viewBit, ReadsInRam, List.forall_mem_append,
    and_assoc, finish, Host.Outcome.next.injEq, eq_comm (b := t), verified]
  simp only [bitsAt, List.length_map]

/-- What the last outcome of VERIFY needs: a fresh sealed buffer, a legal slot, segments and check field in the view,
and every bit to read in a byte that exists. -/
structure VerifyRuns (slot : AlgSlot) (s : State) : Prop where
  /-- SEALED = 1 -/
  sealed : s.isSealed = true
  /-- VALIDITY = NONE -/
  fresh : s.validity = .none
  /-- the slot's width is legal -/
  width : ¬ slot.BadWidth
  /-- the segments are legal -/
  segments : protError s = none
  /-- the check field lies in the view -/
  check : s.arg0.toNat + slot.width.toNat ≤ s.vlen.toNat
  /-- the bits to read exist -/
  inRam : ReadsInRam slot s

theorem exec_verify_of_runs {a : Nat} (ha : a < 4) {s : State} (h : VerifyRuns s.alg[a] s) :
    exec (.verify a) s = .next (verified s.alg[a] s) := by
  rw [exec_verify_of_fresh h.sealed h.fresh, withSlot_of_legal ha h.width h.segments]
  exact (verifyBySlot_eq_next h.check).mpr ⟨h.inRam, rfl⟩

/-- A VERIFY that sets VALIDITY passed every check. -/
theorem verifyRuns_of_exec {a : Nat} (ha : a < 4) {s t : State} (hn : s.validity = .none)
    (h : exec (.verify a) s = .next t) (hset : t.validity ≠ .none) :
    VerifyRuns s.alg[a] s ∧ t = verified s.alg[a] s := by
  have hfailed : ∀ e, .next (complete e false s) ≠ (.next t : Result) := by
    rintro e he
    obtain rfl := Host.Outcome.next.inj he
    exact hset hn
  by_cases hs : s.isSealed = true
  · rw [exec_verify_of_fresh hs hn] at h
    rcases withSlot_cases ha s (verifyBySlot s) with ⟨e, he⟩ | ⟨hw, hprot, hrun⟩
    · exact absurd (he.symm.trans h) (hfailed e)
    rw [hrun] at h
    by_cases hc : s.arg0.toNat + s.alg[a].width.toNat ≤ s.vlen.toNat
    · obtain ⟨hram, ht⟩ := (verifyBySlot_eq_next hc).mp h
      exact ⟨⟨hs, hn, hw, hprot, hc, hram⟩, ht⟩
    · rw [verifyBySlot_of_beyondView (by omega)] at h
      exact absurd h (hfailed _)
  · rw [exec_verify_of_unsealed (by simpa using hs)] at h
    exact absurd h (hfailed _)

/-- Settles O31: the cache is looked at before SEL, ARG0 and the segment table. -/
theorem secondVerifyIsCached : Obligations.SecondVerifyIsCached :=
  fun a _ hs hv => exec_verify_of_validity hs hv a

/-- In the invariant, checks that passed leave only bits of the RAM to read. -/
theorem readsInRam_of_view {slot : AlgSlot} {s : State} (hview : ViewOk s) (hs : s.isSealed = true)
    (hsegs : ¬ SegmentBeyondView s) (hc : s.arg0.toNat + slot.width.toNat ≤ s.vlen.toNat) : ReadsInRam slot s := by
  refine fun j hj => inRam_of_lt_vlen hview hs ?_
  rcases List.mem_append.mp hj with hprot | hcheck
  · exact lt_vlen_of_mem_protectedSpan hsegs hprot
  · have := mem_span.mp hcheck
    omega

/-- Settles O29: one clause for each check in their order; in the view, the bits of all checks passed exist. -/
theorem verifyOutcomes : Obligations.VerifyOutcomes := by
  refine ⟨fun a ha => encode_eq_ofNat (EncodingShape.verify a) ha, fun a s hview =>
    ⟨fun hs => exec_verify_of_unsealed hs a, fun hs hv => exec_verify_of_validity hs hv a, fun hs hn ha => ?_,
      fun ha => ?_⟩⟩
  · rw [exec_verify_of_fresh hs hn, withSlot_of_no_slot ha]
  intro slot w c computed received hs hn
  have hlegal : 1 ≤ w → w ≤ 32 → ¬ slot.BadWidth := fun h1 h32 hbad => absurd hbad (by omega)
  rw [exec_verify_of_fresh hs hn]
  refine ⟨fun hbad => withSlot_of_badWidth ha hbad _,
    fun h1 h32 hcount => withSlot_of_protError ha (hlegal h1 h32) (protError_of_count hcount) _,
    fun h1 h32 hcount hbeyond => withSlot_of_protError ha (hlegal h1 h32) (protError_of_beyondView hcount hbeyond) _,
    fun h1 h32 hcount hsegs hc => ?_, fun h1 h32 hcount hsegs hc => ?_⟩
  · rw [withSlot_of_legal ha (hlegal h1 h32) ((protError_eq_none_iff s).mpr ⟨hcount, hsegs⟩)]
    exact verifyBySlot_of_beyondView hc
  · rw [← exec_verify_of_fresh hs hn, exec_verify_of_runs ha ⟨hs, hn, hlegal h1 h32,
      (protError_eq_none_iff s).mpr ⟨hcount, hsegs⟩, hc, readsInRam_of_view hview hs hsegs hc⟩]
    rfl

/-! ### CRCCALC (42 R175) -/

theorem exec_crccalc_of_unsealed {s : State} (hs : s.isSealed = false) (a : Nat) :
    exec (.crccalc a) s = .next (complete .notSealed false s) := if_pos hs

theorem exec_crccalc_of_sealed {s : State} (hs : s.isSealed = true) (a : Nat) :
    exec (.crccalc a) s = withSlot a s fun slot => withBits s (protIndices s) fun bits =>
      finish (setResult (lo32 (crc slot bits)) 0 (lo32 bits.length) s) :=
  if_neg (by simp [hs])

/-- Settles O30: CRCCALC makes the checks of the slot and the segments that VERIFY makes, and no other. -/
theorem crccalcOutcomes : Obligations.CrccalcOutcomes := by
  refine ⟨fun a ha => encode_eq_ofNat (EncodingShape.crccalc a) ha, fun a s hview =>
    ⟨fun hs => exec_crccalc_of_unsealed hs a, fun hs ha => ?_, fun ha => ?_⟩⟩
  · rw [exec_crccalc_of_sealed hs, withSlot_of_no_slot ha]
  intro slot w hs
  have hlegal : 1 ≤ w → w ≤ 32 → ¬ slot.BadWidth := fun h1 h32 hbad => absurd hbad (by omega)
  rw [exec_crccalc_of_sealed hs]
  refine ⟨fun hbad => withSlot_of_badWidth ha hbad _,
    fun h1 h32 hcount => withSlot_of_protError ha (hlegal h1 h32) (protError_of_count hcount) _,
    fun h1 h32 hcount hbeyond => withSlot_of_protError ha (hlegal h1 h32) (protError_of_beyondView hcount hbeyond) _,
    fun h1 h32 hcount hsegs => ?_⟩
  rw [withSlot_of_legal ha (hlegal h1 h32) ((protError_eq_none_iff s).mpr ⟨hcount, hsegs⟩),
    protIndices_eq_protectedSpan,
    withBits_of_inRam fun j hj => inRam_of_lt_vlen hview hs (lt_vlen_of_mem_protectedSpan hsegs hj),
    ← bitsAt_eq_map_viewBit, bitsAt, List.length_map]
  rfl

/-! ### VERIFY on another buffer (42 R179, R180) -/

/-- `s` with another buffer. -/
def withBuf (m : Memory) (n : Nat) (s : State) : State := { s with mem := m, powerOns := n }

theorem withBits_withBuf {m : Memory} {n : Nat} {s : State} {js : List Nat}
    (h : ∀ j ∈ js, viewBit (withBuf m n s) j = viewBit s j) (go : List Bool → Result) :
    withBits (withBuf m n s) js go = withBits s js go := by
  unfold withBits readView
  rw [List.map_congr_left h]
  rfl

/-- The shared checks look at no bit of the buffer. -/
theorem withSlot_withBuf {a : Nat} (ha : a < 4) (m : Memory) (n : Nat) {s : State} {go go' : AlgSlot → Result}
    (hgo : go' s.alg[a] = mapNext (withBuf m n) (go s.alg[a])) :
    withSlot a (withBuf m n s) go' = mapNext (withBuf m n) (withSlot a s go) := by
  by_cases hw : s.alg[a].BadWidth
  · rw [withSlot_of_badWidth ha hw, withSlot_of_badWidth ha (s := withBuf m n s) hw]
    rfl
  · cases he : protError s with
    | some e =>
      rw [withSlot_of_protError ha hw he, withSlot_of_protError ha (s := withBuf m n s) hw he]
      rfl
    | none =>
      rw [withSlot_of_legal ha hw he, withSlot_of_legal ha (s := withBuf m n s) hw he]
      exact hgo

/-- VERIFY commutes with a change of the buffer that keeps the protected and the check bits. -/
theorem exec_verify_withBuf {a : Nat} (ha : a < 4) {m : Memory} {n : Nat} {s : State}
    (hagree : ∀ j ∈ protectedSpan s ++ span s.arg0.toNat s.alg[a].width.toNat,
      viewBit (withBuf m n s) j = viewBit s j) :
    exec (.verify a) (withBuf m n s) = mapNext (withBuf m n) (exec (.verify a) s) := by
  obtain ⟨hprot, hcheck⟩ := List.forall_mem_append.mp hagree
  rw [← protIndices_eq_protectedSpan] at hprot
  rw [← fieldIndices_eq_span] at hcheck
  by_cases hs : s.isSealed = true
  · by_cases hv : s.validity = .none
    · rw [exec_verify_of_fresh hs hv, exec_verify_of_fresh (s := withBuf m n s) hs hv]
      refine withSlot_withBuf ha m n ?_
      simp only [verifyBySlot, apply_ite (mapNext _), mapNext_withBits, ← withBits_withBuf hprot,
        ← withBits_withBuf hcheck]
      rfl
    · rw [exec_verify_of_validity hs hv, exec_verify_of_validity (s := withBuf m n s) hs hv]
      rfl
  · rw [Bool.not_eq_true] at hs
    rw [exec_verify_of_unsealed hs, exec_verify_of_unsealed (s := withBuf m n s) hs]
    rfl

/-- Settles O35: VERIFY commutes with the change of the buffer, which is in no result. -/
theorem excludedBitsHaveNoInfluence : Obligations.ExcludedBitsHaveNoInfluence := by
  intro a ha s t m n hagree h
  exact ⟨withBuf m n t, (exec_verify_withBuf ha hagree).trans (by rw [h]; rfl), rfl, rfl, rfl, rfl⟩

/-- The checks of VERIFY look at no bit of the buffer. -/
theorem VerifyRuns.withBuf {slot : AlgSlot} {s : State} (h : VerifyRuns slot s) (m : Memory) (n : Nat) :
    VerifyRuns slot (withBuf m n s) :=
  ⟨h.sealed, h.fresh, h.width, h.segments, h.check, h.inRam⟩

theorem VerifyRuns.width_pos {slot : AlgSlot} {s : State} (h : VerifyRuns slot s) : 1 ≤ slot.width.toNat := by
  have hwidth := h.width
  omega

theorem verdict_eq_valid_iff (c r : Nat) : verdict c r = .valid ↔ c = r := by
  unfold verdict
  split <;> simp [*]

theorem verdict_of_ne {c r : Nat} (h : c ≠ r) : verdict c r = .invalid := if_neg h

/-- Settles O34: VALID means that the CRC and the check field match, and one changed bit ends the match. -/
theorem oneChangedBitMakesVerifyInvalid : Obligations.OneChangedBitMakesVerifyInvalid := by
  intro a ha s t m n j hodd hnodup hj hflip hn h hvalid
  obtain ⟨hruns, rfl⟩ := verifyRuns_of_exec ha hn h (by simp [hvalid])
  refine ⟨_, exec_verify_of_runs ha (hruns.withBuf m n), verdict_of_ne ?_, rfl⟩
  have hmatch := (verdict_eq_valid_iff _ _).mp hvalid
  rw [bitsAt_eq_map_viewBit, ← assemble_map_viewBit] at hmatch ⊢
  exact crc_ne_assemble_of_bit_changed hruns.width_pos hodd hnodup hj hflip hmatch

end Sys2Proof.Proofs
end

section
/-! PROOFS. The family 42_integrity.md: when VALIDITY changes (42 R177). -/

namespace Sys2Proof.Proofs

open Sys2Proof.Machine Sys2Proof.Safety

/-! ### When VALIDITY changes (42 R177) -/

/-- The pending word is the command `i`, and the next engine step completes it. -/
def CompletesNext (i : Instr) (s : State) : Prop :=
  ∃ w, s.pending = some w ∧ decode w = .ok i ∧ s.progress = 0

/-- A command that changes VALIDITY is a VERIFY that sets it, or a RELEASE that clears it. SEAL changes nothing, since
VALIDITY is NONE while the buffer is open (10 R38). -/
theorem exec_changes_validity {i : Instr} {s t : State} (hview : ViewOk s) (h : exec i s = .next t)
    (hne : t.validity ≠ s.validity) :
    ((∃ a, i = .verify a) ∧ s.validity = .none ∧ t.err = .ok ∧ t.cached = false) ∨
      (i = .release ∧ s.validity ≠ .none ∧ t.validity = .none ∧ t.isSealed = false) := by
  cases exec_effect h with
  | verified a hi hs hn => exact .inl ⟨⟨a, hi⟩, hn, rfl, rfl⟩
  | released hi hs => exact .inr ⟨hi, hne.symm, rfl, rfl⟩
  | sealedBuffer hi hs =>
    obtain ⟨-, -, hnone⟩ := hview.2 hs
    exact absurd hnone.symm hne
  | failed | cachedVerify | noEffect | sliced | unsliced | result => exact absurd rfl hne

/-- An engine step that changes VALIDITY completes a VERIFY or a RELEASE. -/
theorem engineStep_changes_validity {s t : State} (hview : ViewOk s) (h : engineStep s = .next t)
    (hne : t.validity ≠ s.validity) :
    ((∃ a, CompletesNext (.verify a) s) ∧ s.validity = .none ∧ t.err = .ok ∧ t.cached = false) ∨
      (CompletesNext .release s ∧ s.validity ≠ .none ∧ t.validity = .none ∧ t.isSealed = false) := by
  rcases engineStep_cases s with ⟨-, he⟩ | ⟨w, n, -, -, he⟩ | ⟨w, hp, hn, he⟩
  · obtain rfl := Host.Outcome.next.inj (he.symm.trans h)
    exact absurd rfl hne
  · obtain rfl := Host.Outcome.next.inj (he.symm.trans h)
    exact absurd rfl hne
  · rcases runWord_cases w s with ⟨i, hd, hw⟩ | ⟨e, -, hw⟩
    · rcases exec_changes_validity hview (hw.symm.trans (he.symm.trans h)) hne with ⟨⟨a, rfl⟩, hset⟩ | ⟨rfl, hcleared⟩
      · exact .inl ⟨⟨a, w, hp, hd, hn⟩, hset⟩
      · exact .inr ⟨⟨w, hp, hd, hn⟩, hcleared⟩
    · obtain rfl := Host.Outcome.next.inj (hw.symm.trans (he.symm.trans h))
      exact absurd rfl hne

/-- CTRL stands at one aligned offset only. -/
theorem eq_offset_of_locate_ctrl {a : Nat} (hal : a % 4 = 0) (h : locate a = some .ctrl) : a = Reg.ctrl.offset := by
  unfold locate at h
  split_ifs at h
  · have hword : a / 4 = 3 := by
      unfold singleReg at h
      split at h <;> simp_all
    show a = 0x00C
    omega
  -- from 0x100 on `locate` names other registers only
  all_goals simp at h
  all_goals split at h <;> simp at h

/-- Of the host's accesses only those that reset the block change VALIDITY. -/
theorem serve_changes_validity {a : Access} {s : State} (hne : (serve a s).validity ≠ s.validity) :
    resets a = true ∧ (serve a s).validity = .none ∧ (serve a s).isSealed = false := by
  cases a with
  | read size addr => exact absurd rfl hne
  | write size addr v =>
    rw [serve_write] at hne ⊢
    have heffect := writeTarget_effect (target s.bufBytes size addr) v s
    generalize writeTarget (target s.bufBytes size addr) v s = t at hne heffect ⊢
    cases heffect with
    | softReset hctrl hv =>
      obtain ⟨rfl, hal, hloc⟩ := target_reg hctrl
      exact ⟨by simp [resets, hv, eq_offset_of_locate_ctrl hal hloc], rfl, rfl⟩
    | ignored | dropped | enable | clear | overflow | issued | operand | length | byte | word => exact absurd rfl hne

/-- The engine takes the next step: its turn of the agenda, or the agenda is empty (log 4). -/
def EngineTurn (s : State) : Prop := s.agenda = [] ∨ ∃ rest, s.agenda = .engine :: rest

/-- The next turn resets the block (70 R220, R222). -/
def ResetTurn (s : State) : Prop :=
  (∃ rest, s.agenda = .resetInput :: rest) ∨ (∃ rest, s.agenda = .powerUp :: rest) ∨
    ∃ a rest, s.agenda = .host a :: rest ∧ resets a = true

/-- A step that changes VALIDITY is an engine step that does, or a reset. -/
theorem step_changes_validity {s t : State} (hview : ViewOk s) (h : step s = .next t) (hne : t.validity ≠ s.validity) :
    (EngineTurn s ∧
      (((∃ a, CompletesNext (.verify a) s) ∧ s.validity = .none ∧ t.err = .ok ∧ t.cached = false) ∨
        (CompletesNext .release s ∧ s.validity ≠ .none ∧ t.validity = .none ∧ t.isSealed = false))) ∨
      (ResetTurn s ∧ t.validity = .none ∧ t.isSealed = false) := by
  rcases step_cases s with ⟨ha, he⟩ | ⟨u, rest, ha, ⟨rfl, he⟩ | ⟨a, rfl, he⟩ | ⟨rfl, he⟩ | ⟨rfl, he⟩⟩
  · exact .inl ⟨.inl ha, engineStep_changes_validity hview (he.symm.trans h) hne⟩
  · exact .inl ⟨.inr ⟨rest, ha⟩,
      engineStep_changes_validity (s := { s with agenda := rest }) hview (he.symm.trans h) hne⟩
  · obtain rfl := Host.Outcome.next.inj (he.symm.trans h)
    obtain ⟨hreset, hcleared⟩ := serve_changes_validity (s := { s with agenda := rest }) hne
    exact .inr ⟨.inr (.inr ⟨a, rest, ha, hreset⟩), hcleared⟩
  · obtain rfl := Host.Outcome.next.inj (he.symm.trans h)
    exact .inr ⟨.inl ⟨rest, ha⟩, rfl, rfl⟩
  · obtain rfl := Host.Outcome.next.inj (he.symm.trans h)
    exact .inr ⟨.inr (.inl ⟨rest, ha⟩), rfl, rfl⟩

/-- Settles O36: VERIFY sets VALIDITY from NONE; RELEASE and the resets clear it and open the buffer. -/
theorem validityIsSetAtMostOncePerPhase : Obligations.ValidityIsSetAtMostOncePerPhase := by
  intro s t hinv hstep hne
  rcases step_changes_validity hinv.view hstep hne with
    ⟨hturn, ⟨⟨a, w, hp, hd, hn⟩, hnone, hok⟩ | ⟨⟨w, hp, hd, hn⟩, hset, hcleared, hopen⟩⟩ | ⟨hreset, hcleared, hopen⟩
  · exact ⟨fun _ => ⟨⟨a, w, hp, hd, hn, hturn⟩, hok⟩, fun hset => absurd hnone hset⟩
  · exact ⟨fun hnone => absurd hnone hset, fun _ => ⟨hcleared, hopen, .inl ⟨w, hp, hd, hn, hturn⟩⟩⟩
  · exact ⟨fun hnone => absurd (hcleared.trans hnone.symm) hne, fun _ => ⟨hcleared, hopen, .inr hreset⟩⟩

end Sys2Proof.Proofs
end

section
/-! PROOFS. The family 60_exceptions.md: failed commands (60 R202), the interrupt (60 R205) and what clears the sticky
flags (60 R206). -/

namespace Sys2Proof.Proofs

open Sys2Proof.Machine Sys2Proof.Safety

/-! ### Completions (60 R202, R203) -/

/-- A command that ends with an error makes no write of its own: `failed` is the only effect with such a code. -/
theorem exec_failed {i : Instr} {s t : State} (h : exec i s = .next t) (herr : t.err ≠ .ok) :
    t = complete t.err false s := by
  cases exec_effect h with
  | failed => rfl
  | cachedVerify | noEffect | sealedBuffer | released | sliced | unsliced | result | verified => exact absurd rfl herr

/-- Settles O7: an illegal word raises ILLEGAL, and a failed command leaves `complete` of its code. -/
theorem failedCommandsArePrecise : Obligations.FailedCommandsArePrecise := by
  intro w s t h herr
  rcases runWord_cases w s with ⟨i, -, hw⟩ | ⟨e, -, hw⟩
  · exact exec_failed (hw.symm.trans h) herr
  · obtain rfl := Host.Outcome.next.inj (hw.symm.trans h)
    rfl

/-- Every completion sets DONE and leaves CTRL, WERR and OVF to the host. -/
theorem runWord_flags {w : Word} {s t : State} (h : runWord w s = .next t) :
    t.done = true ∧ t.ie = s.ie ∧ t.werr = s.werr ∧ t.ovf = s.ovf := by
  rcases runWord_cases w s with ⟨i, -, hw⟩ | ⟨e, -, hw⟩
  · cases exec_effect (hw.symm.trans h) with
    | failed | cachedVerify | noEffect | sealedBuffer | released | sliced | unsliced | result | verified =>
      exact ⟨rfl, rfl, rfl, rfl⟩
  · obtain rfl := Host.Outcome.next.inj (hw.symm.trans h)
    exact ⟨rfl, rfl, rfl, rfl⟩

/-! ### The registers' addresses (the summary map of 10_state.md) -/

theorem offset_of_singleReg {k : Nat} {r : Reg} (h : singleReg k = some r) : r.offset = 4 * k := by
  unfold singleReg at h
  split at h <;> cases h <;> rfl

/-- A register stands at one aligned offset only: each index that `locate` computes gives the offset back. -/
theorem offset_of_locate {a : Nat} {r : Reg} (hal : a % 4 = 0) (h : locate a = some r) : r.offset = a := by
  have of_eq : ∀ {q : Reg}, some q = some r → q.offset = a → r.offset = a := fun hq ha => Option.some.inj hq ▸ ha
  have hquarter : a % 16 / 4 = 0 ∨ a % 16 / 4 = 1 ∨ a % 16 / 4 = 2 ∨ a % 16 / 4 = 3 := by omega
  unfold locate at h
  split_ifs at h
  · have hword := offset_of_singleReg h
    omega
  · -- OFFS
    exact of_eq h (by simp only [Reg.offset]; omega)
  · -- SEG[k].START
    exact of_eq h (by simp only [Reg.offset]; omega)
  · -- SEG[k].LEN
    exact of_eq h (by simp only [Reg.offset]; omega)
  · -- ALG
    rcases hquarter with hq | hq | hq | hq <;>
    · simp only [hq] at h
      exact of_eq h (by simp only [Reg.offset]; omega)
  · -- TCFG
    exact of_eq h (by simp only [Reg.offset]; omega)
  · -- BAND
    rcases hquarter with hq | hq | hq | hq <;>
    · simp only [hq] at h
      exact of_eq h (by simp only [Reg.offset]; omega)

theorem locate_offset (r : Reg) : locate r.offset = some r := by
  cases r with
  | id | version | param | ctrl | status | cmd | arg0 | arg1 | bufLen | vbase | vlen | segCnt | resLo | resHi
  | resAux => rfl
  | offs k | segStart k | segLen k | algPoly k | algInit k | algXorout k | algCfg k | tcfg k => revert k; decide
  | bandRange t b | bandMult t b | bandOffset t b | bandFlags t b => revert t b; decide

theorem offset_lt (r : Reg) : r.offset < bufBase := by
  cases r <;> simp only [Reg.offset, bufBase] <;> omega

theorem offset_aligned (r : Reg) : r.offset % 4 = 0 := by
  cases r <;> simp only [Reg.offset] <;> omega

theorem toNat_regAddr (r : Reg) : (regAddr r).toNat = r.offset := by
  have hlt : r.offset < 0x1000 := offset_lt r
  simp only [regAddr, BitVec.toNat_ofNat]
  omega

theorem target_regAddr (n : Nat) (r : Reg) : target n .word (regAddr r) = .reg r := by
  simp [target, toNat_regAddr, offset_aligned, offset_lt, locate_offset]

/-- Only a 32-bit access at its own address reaches a register. -/
theorem eq_regAddr_of_target {n : Nat} {r : Reg} {size : Size} {addr : BitVec 16} (h : target n size addr = .reg r) :
    size = .word ∧ addr = regAddr r := by
  obtain ⟨hsize, hal, hloc⟩ := target_reg h
  refine ⟨hsize, BitVec.eq_of_toNat_eq ?_⟩
  rw [toNat_regAddr, offset_of_locate hal hloc]

theorem serve_write_regAddr (r : Reg) (v : Word) (s : State) :
    serve (.write .word (regAddr r) v) s = answered 0 (writeReg r v s) := by
  rw [serve_write, target_regAddr, respond_eq_answered (by simp)]
  rfl

/-! ### The interrupt output (60 R205) -/

theorem getLsbD_statusWord_done (s : State) : (statusWord s).getLsbD 1 = s.done := by
  simp only [statusWord, flag, BitVec.getLsbD_append]
  simp

theorem getLsbD_ctrlWord_ie (s : State) : (ctrlWord s).getLsbD 0 = s.ie := by
  simp only [ctrlWord, flag, BitVec.getLsbD_append]
  simp

/-- Settles O59: IRQ follows the two bits, completion sets the one and a CTRL write stores the other. -/
theorem interruptIsDoneAndEnabled : Obligations.InterruptIsDoneAndEnabled := by
  intro s
  refine ⟨?_, fun w t h => ?_, fun hdone => ?_, fun hdone => ?_⟩
  · simp only [readReg, getLsbD_statusWord_done, getLsbD_ctrlWord_ie, irq]
  · obtain ⟨hdone, hie, -, -⟩ := runWord_flags h
    simp [irq, hdone, hie]
  · rw [serve_write_regAddr]
    simp [irq, answered, writeReg, writeCtrl, hdone]
  · rw [serve_write_regAddr]
    simp [irq, answered, writeReg, writeCtrl]

/-! ### The sticky flags (60 R206) -/

/-- WERR is 1 before and 0 after. -/
abbrev WerrCleared (s t : State) : Prop := s.werr = true ∧ t.werr = false

/-- OVF is 1 before and 0 after. -/
abbrev OvfCleared (s t : State) : Prop := s.ovf = true ∧ t.ovf = false

/-- Neither flag is cleared between `s` and `t`. -/
def StickyKept (s t : State) : Prop := (s.werr = true → t.werr = true) ∧ (s.ovf = true → t.ovf = true)

theorem not_stickyKept {s t : State} (h : WerrCleared s t ∨ OvfCleared s t) : ¬ StickyKept s t := by
  rintro ⟨hwerr, hovf⟩
  rcases h with ⟨hs, ht⟩ | ⟨hs, ht⟩
  · simp [hwerr hs] at ht
  · simp [hovf hs] at ht

/-- The engine clears neither flag: a completion leaves both as they are. -/
theorem engineStep_stickyKept {s t : State} (h : engineStep s = .next t) : StickyKept s t := by
  rcases engineStep_cases s with ⟨-, he⟩ | ⟨w, n, -, -, he⟩ | ⟨w, -, -, he⟩
  · obtain rfl := Host.Outcome.next.inj (he.symm.trans h)
    exact ⟨id, id⟩
  · obtain rfl := Host.Outcome.next.inj (he.symm.trans h)
    exact ⟨id, id⟩
  · obtain ⟨-, -, hwerr, hovf⟩ := runWord_flags (he.symm.trans h)
    exact ⟨hwerr.trans, hovf.trans⟩

/-- A clearing write of STATUS has a 1 in the bit of each flag it clears (10 R23). -/
theorem clearStatus_bits (v : Word) (s : State) :
    (WerrCleared s (clearStatus v s) → v.getLsbD 12 = true) ∧
      (OvfCleared s (clearStatus v s) → v.getLsbD 13 = true) := by
  simp +contextual

/-- Of the host's accesses only a reset and a STATUS write clear a flag, the latter only by its bit. -/
theorem serve_clears_sticky {a : Access} {s : State} (h : ¬ StickyKept s (serve a s)) :
    resets a = true ∨ ∃ v, a = .write .word (regAddr .status) v ∧
      (WerrCleared s (serve a s) → v.getLsbD 12 = true) ∧ (OvfCleared s (serve a s) → v.getLsbD 13 = true) := by
  cases a with
  | read size addr => exact absurd ⟨id, id⟩ h
  | write size addr v =>
    rw [serve_write] at h ⊢
    have heffect := writeTarget_effect (target s.bufBytes size addr) v s
    generalize writeTarget (target s.bufBytes size addr) v s = t at h heffect ⊢
    cases heffect with
    | softReset hctrl hv =>
      obtain ⟨rfl, rfl⟩ := eq_regAddr_of_target hctrl
      exact .inl (by simp [resets, toNat_regAddr, hv])
    | clear hstatus =>
      obtain ⟨rfl, rfl⟩ := eq_regAddr_of_target hstatus
      exact .inr ⟨v, rfl, clearStatus_bits v s⟩
    | dropped => exact absurd ⟨fun _ => rfl, id⟩ h
    | overflow => exact absurd ⟨id, fun _ => rfl⟩ h
    | ignored | enable | issued | operand | length | byte | word => exact absurd ⟨id, id⟩ h

/-- Over every step only a reset and a STATUS write clear a flag. -/
theorem step_clears_sticky {s t : State} (h : step s = .next t) (hc : WerrCleared s t ∨ OvfCleared s t) :
    ∃ u rest, s.agenda = u :: rest ∧
      (quietTurn u = false ∨ ∃ v, u = .host (.write .word (regAddr .status) v) ∧
        (WerrCleared s t → v.getLsbD 12 = true) ∧ (OvfCleared s t → v.getLsbD 13 = true)) := by
  have hnot := not_stickyKept hc
  rcases step_cases s with ⟨-, he⟩ | ⟨u, rest, ha, ⟨rfl, he⟩ | ⟨a, rfl, he⟩ | ⟨rfl, -⟩ | ⟨rfl, -⟩⟩
  · exact absurd (engineStep_stickyKept (he.symm.trans h)) hnot
  · exact absurd (engineStep_stickyKept (s := { s with agenda := rest }) (he.symm.trans h)) hnot
  · obtain rfl := Host.Outcome.next.inj (he.symm.trans h)
    refine ⟨_, rest, ha, ?_⟩
    rcases serve_clears_sticky (s := { s with agenda := rest }) hnot with hreset | ⟨v, rfl, hbits⟩
    · exact .inl (by simp [quietTurn, hreset])
    · exact .inr ⟨v, rfl, hbits⟩
  · exact ⟨_, rest, ha, .inl rfl⟩
  · exact ⟨_, rest, ha, .inl rfl⟩

/-- Settles O60: what a STATUS write, an issue and a reset leave, and which steps clear WERR or OVF. -/
theorem acknowledgeAndStickyFlags : Obligations.AcknowledgeAndStickyFlags := by
  intro s
  refine ⟨fun v => ?_, fun w hidle => ?_, fun rest t h => ?_, fun _ _ => rfl, fun t => step_clears_sticky⟩
  · rw [serve_write_regAddr]
    simp +contextual [irq, answered, writeReg]
  · rw [serve_write_regAddr]
    simp [irq, answered, writeReg, writeCmd, hidle]
  · obtain rfl := Host.Outcome.next.inj h
    exact ⟨rfl, rfl, rfl, rfl⟩

end Sys2Proof.Proofs
end

section
/-! PROOFS. The family 70_reset_and_hazards.md: reset (70 R221, R223), issue (70 R227, R230) and the writes that are
dropped or ignored (70 R229). -/

namespace Sys2Proof.Proofs

open Sys2Proof.Machine Sys2Proof.Safety

/-! ### The block right after a reset (70 R221) -/

/-- The block at its reset values, with any BUF and any outside world: what power-on and every reset leave. -/
def freshBlock (n : Nat) (m : Memory) (p : Nat) (waits : List Nat) (agenda : List Turn) (rs : List Response) : State :=
  { State.powerOn n waits with mem := m, powerOns := p, agenda := agenda, responses := rs }

theorem powerOn_eq_freshBlock (n : Nat) (waits : List Nat) : State.powerOn n waits = freshBlock n [] 0 waits [] [] := rfl

theorem resetBlock_eq_freshBlock (s : State) :
    resetBlock s = freshBlock s.bufBytes s.mem s.powerOns s.waits s.agenda s.responses := rfl

theorem powerCycle_eq_freshBlock (s : State) :
    powerCycle s = freshBlock s.bufBytes [] (s.powerOns + 1) s.waits s.agenda s.responses := rfl

section FreshBlock

variable (n : Nat) (m : Memory) (p : Nat) (waits : List Nat) (agenda : List Turn) (rs : List Response)

/-- No register shows BUF or the outside world. -/
theorem readReg_freshBlock (r : Reg) :
    readReg r (freshBlock n m p waits agenda rs) = readReg r (State.powerOn n []) := by
  cases r <;> rfl

variable {n}

/-- PARAM's 16 bits hold every legal BUF_BYTES; each other register is a constant or a field of the reset state. -/
theorem atReset_freshBlock (hn : n ≤ Config.maxBufBytes) : AtReset (freshBlock n m p waits agenda rs) := by
  refine ⟨fun r => ?_, rfl, rfl, rfl, rfl⟩
  rw [readReg_freshBlock]
  cases r with
  | id | version | cmd | arg0 | arg1 | bufLen | vbase | vlen | resLo | resHi | resAux => rfl
  | ctrl | status | segCnt =>
    simp [readReg, State.powerOn, ctrlWord, statusWord, flag, Validity.bits, ErrCode.code]
  | param =>
    have hmax : n ≤ 8192 := hn
    apply BitVec.eq_of_toNat_eq
    show (0#16 ++ BitVec.ofNat 16 n).toNat = (BitVec.ofNat 32 n).toNat
    rw [toNat_append_eq_add]
    simp only [BitVec.toNat_ofNat]
    omega
  | offs k | segStart k | segLen k | algPoly k | algInit k | algXorout k | algCfg k | tcfg k
  | bandRange t b | bandMult t b | bandOffset t b | bandFlags t b => simp [readReg, State.powerOn, flag]

end FreshBlock

/-! ### The turns that reset (70 R220, R222) -/

theorem engineStep_of_idle {s : State} (h : s.pending = none) : engineStep s = .next s := by
  simp [engineStep, h]

theorem writeReg_ctrl_reset {v : Word} (hv : v.getLsbD 1 = true) (s : State) :
    writeReg .ctrl v s = resetBlock s := if_pos hv

theorem resets_iff (a : Access) : resets a = true ↔ ∃ v, a = .write .word (regAddr .ctrl) v ∧ v.getLsbD 1 = true := by
  constructor
  · intro h
    cases a with
    | read size addr => cases h
    | write size addr v =>
      cases size with
      | byte | half => cases h
      | word =>
        obtain ⟨haddr, hv⟩ : addr.toNat = Reg.ctrl.offset ∧ v.getLsbD 1 = true := by simpa [resets] using h
        obtain rfl : addr = regAddr .ctrl := BitVec.eq_of_toNat_eq (haddr.trans (toNat_regAddr .ctrl).symm)
        exact ⟨v, rfl, hv⟩
  · rintro ⟨v, rfl, hv⟩
    simp [resets, toNat_regAddr, hv]

/-- The soft reset, the reset input and a power-up all leave the block fresh; only a power-up draws BUF anew. -/
theorem step_resetTurn (s : State) {u : Turn} (rest : List Turn) (hu : quietTurn u = false) :
    ∃ m p rs, step { s with agenda := u :: rest } = .next (freshBlock s.bufBytes m p s.waits rest rs) ∧
      (u ≠ .powerUp → m = s.mem ∧ p = s.powerOns) := by
  cases u with
  | engine => cases hu
  | resetInput => exact ⟨_, _, _, congrArg _ (resetBlock_eq_freshBlock _), fun _ => ⟨rfl, rfl⟩⟩
  | powerUp => exact ⟨_, _, _, congrArg _ (powerCycle_eq_freshBlock _), fun hne => absurd rfl hne⟩
  | host a =>
    obtain ⟨v, rfl, hv⟩ := (resets_iff a).mp (by simpa [quietTurn] using hu)
    refine ⟨s.mem, s.powerOns, ⟨0, false⟩ :: s.responses, ?_, fun _ => ⟨rfl, rfl⟩⟩
    show Host.Outcome.next (serve _ { s with agenda := rest }) = _
    rw [serve_write_regAddr, writeReg_ctrl_reset hv, resetBlock_eq_freshBlock]
    rfl

/-- Settles O43: power-on and each resetting turn leave a fresh block. -/
theorem resetRegisterValues : Obligations.ResetRegisterValues := by
  refine ⟨fun n waits hn => ?_, fun s u rest hn hu _ => ?_⟩
  · rw [powerOn_eq_freshBlock]
    exact atReset_freshBlock [] 0 waits [] [] hn
  · obtain ⟨m, p, rs, hstep, -⟩ := step_resetTurn s rest hu
    exact ⟨_, hstep, rfl, atReset_freshBlock m p s.waits rest rs hn⟩

/-- Settles O45: both turns leave a fresh block, whose engine is idle, and neither is a power-up. -/
theorem resetAbandonsTheCommandAndKeepsBuf : Obligations.ResetAbandonsTheCommandAndKeepsBuf := by
  intro s u rest v hv _ hu
  have hquiet : quietTurn u = false := by
    rcases hu with rfl | rfl
    · rfl
    · simp [quietTurn, (resets_iff _).mpr ⟨v, rfl, hv⟩]
  have hpower : u ≠ .powerUp := by rcases hu with rfl | rfl <;> simp
  obtain ⟨m, p, rs, hstep, hbuf⟩ := step_resetTurn s rest hquiet
  obtain ⟨hm, hp⟩ := hbuf hpower
  refine ⟨_, hstep, rfl, rfl, rfl, readReg_freshBlock _ m p s.waits rest rs, ?_, ?_, fun _ k => bufByte_congr hm hp k⟩
  · rw [step_agenda_nil rfl, engineStep_of_idle rfl]
  · rw [step_agenda_engine rfl, engineStep_of_idle rfl]
    rfl

/-! ### Writes to CMD (70 R227, R230) -/

/-- Settles O46: the write is `issue`. -/
theorem cmdWriteIssuesTheCommand : Obligations.CmdWriteIssuesTheCommand := by
  intro s w hidle
  refine ⟨nextWait s, s.waits.tail, ?_⟩
  rw [serve_write_regAddr]
  simp [writeReg, writeCmd, hidle, issue]

/-- Settles O47: the write only raises OVF. -/
theorem cmdWriteWhileBusyIsDropped : Obligations.CmdWriteWhileBusyIsDropped := by
  intro s w hbusy
  rw [serve_write_regAddr]
  simp [writeReg, writeCmd, hbusy]

/-! ### Writes to the other registers (70 R229) -/

theorem writeReg_operand_busy {r : Reg} (hr : operandReg r = true) (v : Word) {s : State} (hbusy : s.busy = true) :
    writeReg r v s = dropWrite s := by
  cases r with
  | id | version | param | ctrl | status | cmd | vbase | vlen | resLo | resHi | resAux => cases hr
  | bufLen =>
    rw [writeReg]
    exact storeOpen_locked (.inr hbusy)
  | arg0 | arg1 | segCnt | offs k | segStart k | segLen k | algPoly a | algInit a | algXorout a | algCfg a | tcfg k
  | bandRange t b | bandMult t b | bandOffset t b | bandFlags t b =>
    rw [writeReg]
    exact storeIdle_busy hbusy

theorem writeReg_readOnly {r : Reg} (hr : readOnlyReg r = true) (v : Word) (s : State) : writeReg r v s = s := by
  cases r with
  | id | version | param | vbase | vlen | resLo | resHi | resAux => rfl
  | ctrl | status | cmd | bufLen | arg0 | arg1 | segCnt | offs k | segStart k | segLen k | algPoly a | algInit a
  | algXorout a | algCfg a | tcfg k | bandRange t b | bandMult t b | bandOffset t b | bandFlags t b => cases hr

theorem writeReg_ctrl_enable {v : Word} (hv : v.getLsbD 1 = false) (s : State) :
    writeReg .ctrl v s = { s with ie := v.getLsbD 0 } := if_neg (ne_true_of_eq_false hv)

/-! ### Reserved space (10 R39) -/

/-- The address is in one of the four reserved ranges of the window, with `n` = BUF_BYTES. -/
def ReservedAddr (n a : Nat) : Prop :=
  (0x03C ≤ a ∧ a < 0x100) ∨ (0x2D0 ≤ a ∧ a < 0x400) ∨ (0x600 ≤ a ∧ a < 0x1000) ∨ 0x1000 + n ≤ a

theorem not_reservedAddr_offset (n : Nat) (r : Reg) : ¬ ReservedAddr n r.offset := by
  unfold ReservedAddr
  cases r <;> simp only [Reg.offset] <;> omega

theorem target_of_reservedAddr {n : Nat} {addr : BitVec 16} (hal : addr.toNat % 4 = 0)
    (h : ReservedAddr n addr.toNat) : target n .word addr = .reserved := by
  have hbeyond : 0x1000 ≤ addr.toNat → 0x1000 + n ≤ addr.toNat := by
    unfold ReservedAddr at h
    omega
  rcases target_word_cases n addr with
    ⟨hmis, -⟩ | ⟨-, -, ⟨r, hloc, -⟩ | ⟨-, ht⟩⟩ | ⟨-, hstart, hin, -⟩ | ⟨-, hstart, hin, -⟩ | ⟨-, -, ht⟩
  · exact absurd hal hmis
  · exact absurd (offset_of_locate hal hloc ▸ h) (not_reservedAddr_offset n r)
  · exact ht
  · have := hbeyond hstart
    omega
  · have := hbeyond hstart
    omega
  · exact ht

theorem serve_write_reservedAddr {s : State} {addr : BitVec 16} (v : Word) (hal : addr.toNat % 4 = 0)
    (h : ReservedAddr s.bufBytes addr.toNat) : serve (.write .word addr v) s = answered 0 s := by
  rw [serve_write, target_of_reservedAddr hal h, respond_eq_answered (by simp)]
  rfl

/-- Settles O48: each written location has its rule above, and BUF is behind the lock `storeOpen`. -/
theorem operandWritesWhileBusyAreDropped : Obligations.OperandWritesWhileBusyAreDropped := by
  intro s v hs
  refine ⟨fun hbusy => ⟨fun r hr => ?_, fun k hk => ?_, fun k hal hk => ?_⟩, fun hv => ?_, fun hv _ => ?_, ?_,
    fun r hr => ?_, fun addr hal haddr => serve_write_reservedAddr v hal haddr⟩
  · rw [serve_write_regAddr, writeReg_operand_busy hr v hbusy]
    rfl
  · rw [serve_write_byte_bufAddr v hs hk, storeOpen_locked (.inr hbusy)]
    rfl
  · rw [serve_write_word_bufAddr v hs hal hk, storeOpen_locked (.inr hbusy)]
    rfl
  · rw [serve_write_regAddr, writeReg_ctrl_enable hv]
  · rw [serve_write_regAddr, writeReg_ctrl_reset hv]
  · rw [serve_write_regAddr]
    rfl
  · rw [serve_write_regAddr, writeReg_readOnly hr]

end Sys2Proof.Proofs
end

section
/-! PROOFS. The encoding as a bijection (30 R80, R81), the engine's steps (70 R228), and what completions and commands
write (60 R203, 10 R27, R29, R38). -/

namespace Sys2Proof.Proofs

open Sys2Proof.Machine Sys2Proof.Safety Sys2Proof.Laws

/-! ### Decoding and encoding (30 R80, R81) -/

theorem opcode_lt (i : Instr) : i.opcode < 256 := by
  cases i <;> simp [Instr.opcode]

/-- OPC and SEL fit their fields, so no command's word loses a bit of them. -/
theorem encodingShape (i : Instr) : EncodingShape.Statement i :=
  fun hwf => fields_of_word i.opcode i.sel (opcode_lt i) hwf

/-- Settles O1: the decoder reads back the fields of the word, and OPC and SEL determine the command. -/
theorem decodeOfEncodeIsIdentity : Obligations.DecodeOfEncodeIsIdentity := by
  intro i hwf
  obtain ⟨hopc, hsel, hrsv⟩ := encodingShape i hwf
  exact decode_eq_ok_iff.mpr ⟨hrsv, hopc.symm, hsel.symm⟩

/-- Settles O2: a word with RSV = 0 is the number OPC + SEL · 2^8, which is what the encoder makes of the two fields. -/
theorem decodedWordIsItsEncoding : Obligations.DecodedWordIsItsEncoding := by
  intro w i h
  obtain ⟨hrsv, hopc, hsel⟩ := decode_eq_ok_iff.mp h
  rw [rsvField_eq] at hrsv
  rw [opcField_eq] at hopc
  rw [selField_eq] at hsel
  have hwf : i.WellFormed := by
    show i.sel < 256
    omega
  have hnum : i.opcode + i.sel * 2 ^ 8 = w.toNat := by omega
  refine ⟨hwf, ?_⟩
  rw [encode_eq_ofNat (encodingShape i) hwf, hnum, BitVec.ofNat_toNat, BitVec.setWidth_eq]

/-! ### The engine's steps (70 R228) -/

theorem engineStep_internal {s : State} {w : Word} {n : Nat} (hp : s.pending = some w) (hn : s.progress = n + 1) :
    engineStep s = .next { s with progress := n } := by
  simp [engineStep, hp, hn]

theorem runWord_of_decode {w : Word} {i : Instr} (h : decode w = .ok i) (s : State) : runWord w s = exec i s := by
  simp [runWord, h]

/-- Settles O5: both forms of the engine's turn run `engineStep`, which at the completing step runs the word. -/
theorem stepRunsTheDecodedCommand : Obligations.StepRunsTheDecodedCommand := by
  intro s w i rest hp hn hd
  have hengine : ∀ u : State, u.pending = some w → u.progress = 0 → engineStep u = exec i u := fun u hup hun =>
    (engineStep_completing hup hun).trans (runWord_of_decode hd u)
  exact ⟨fun ha => (step_agenda_nil ha).trans (hengine s hp hn),
    fun ha => (step_agenda_engine ha).trans (hengine { s with agenda := rest } hp hn)⟩

/-- Settles O10: both forms of the engine's turn run `engineStep`, which here makes an internal step. -/
theorem internalEngineStepIsHidden : Obligations.InternalEngineStepIsHidden := by
  intro s w n rest hp hn
  exact ⟨fun ha => (step_agenda_nil ha).trans (engineStep_internal hp hn),
    fun ha => (step_agenda_engine ha).trans (engineStep_internal (s := { s with agenda := rest }) hp hn)⟩

/-! ### Completions (60 R203) -/

/-- A command reports CACHED exactly when it is a VERIFY that finds a validity (42 R178). -/
theorem exec_cached_iff {i : Instr} {s t : State} (h : exec i s = .next t) :
    t.cached = true ↔ (∃ a, i = .verify a) ∧ s.isSealed = true ∧ s.validity ≠ .none := by
  constructor
  · intro hc
    cases exec_effect h with
    | cachedVerify a hi hs hv => exact ⟨⟨a, hi⟩, hs, hv⟩
    | failed | noEffect | sealedBuffer | released | sliced | unsliced | result | verified => cases hc
  · rintro ⟨⟨a, rfl⟩, hs, hv⟩
    obtain rfl := Host.Outcome.next.inj ((exec_verify_of_validity hs hv a).symm.trans h)
    rfl

/-- Every completion ends the command in flight. -/
theorem runWord_idle {w : Word} {s t : State} (h : runWord w s = .next t) : t.busy = false ∧ t.pending = none := by
  rcases runWord_cases w s with ⟨i, -, hw⟩ | ⟨e, -, hw⟩
  · cases exec_effect (hw.symm.trans h) with
    | failed | cachedVerify | noEffect | sealedBuffer | released | sliced | unsliced | result | verified =>
      exact ⟨rfl, rfl⟩
  · obtain rfl := Host.Outcome.next.inj (hw.symm.trans h)
    exact ⟨rfl, rfl⟩

/-- A word that does not decode reports no CACHED. -/
theorem runWord_cached_iff {w : Word} {s t : State} (h : runWord w s = .next t) :
    t.cached = true ↔ (∃ a, decode w = .ok (.verify a)) ∧ s.isSealed = true ∧ s.validity ≠ .none := by
  rcases runWord_cases w s with ⟨i, hd, hw⟩ | ⟨e, hd, hw⟩
  · simpa [hd] using exec_cached_iff (hw.symm.trans h)
  · obtain rfl := Host.Outcome.next.inj (hw.symm.trans h)
    simp [hd]

/-- Settles O8: what every completion writes, and when it reports CACHED. -/
theorem completionSetsItsFields : Obligations.CompletionSetsItsFields := by
  intro w s t h
  obtain ⟨hdone, hie, hwerr, hovf⟩ := runWord_flags h
  obtain ⟨hbusy, hpending⟩ := runWord_idle h
  exact ⟨hbusy, hdone, hpending, runWord_cached_iff h, hwerr, hovf, hie⟩

/-! ### The frame of the commands (10 R27, R29, R38) -/

/-- Beyond the completion fields a command writes at most SEALED, VALIDITY, the view and the results. -/
theorem exec_frame {i : Instr} {s t : State} (h : exec i s = .next t) :
    t = { s with
      busy := t.busy, done := t.done, err := t.err, cached := t.cached, pending := t.pending,
      isSealed := t.isSealed, validity := t.validity, vbase := t.vbase, vlen := t.vlen,
      resLo := t.resLo, resHi := t.resHi, resAux := t.resAux } := by
  cases exec_effect h with
  | failed | cachedVerify | noEffect | sealedBuffer | released | sliced | unsliced | result | verified => rfl

/-- No command writes BUF (20 R76). -/
theorem exec_bufByte {i : Instr} {s t : State} (h : exec i s = .next t) (k : Nat) : bufByte t k = bufByte s k := by
  rw [exec_frame h]
  rfl

theorem exec_keeps_sealed {i : Instr} {s t : State} (hseal : i ≠ .sealBuf) (hrelease : i ≠ .release)
    (h : exec i s = .next t) : t.isSealed = s.isSealed := by
  cases exec_effect h with
  | sealedBuffer hi => exact absurd hi hseal
  | released hi => exact absurd hi hrelease
  | failed | cachedVerify | noEffect | sliced | unsliced | result | verified => rfl

theorem exec_keeps_view {i : Instr} {s t : State} (hseal : i ≠ .sealBuf) (hrelease : i ≠ .release)
    (hslice : i ≠ .slice) (hunslice : i ≠ .unslice) (h : exec i s = .next t) :
    t.vbase = s.vbase ∧ t.vlen = s.vlen := by
  cases exec_effect h with
  | sealedBuffer hi => exact absurd hi hseal
  | released hi => exact absurd hi hrelease
  | sliced hi => exact absurd hi hslice
  | unsliced hi => exact absurd hi hunslice
  | failed | cachedVerify | noEffect | result | verified => exact ⟨rfl, rfl⟩

/-- Buffer control, the view commands and a cached VERIFY have no result. -/
theorem exec_keeps_results {i : Instr} {s t : State} (h : exec i s = .next t)
    (hi : i = .nop ∨ i = .sealBuf ∨ i = .release ∨ i = .slice ∨ i = .unslice ∨ t.cached = true) :
    t.resLo = s.resLo ∧ t.resHi = s.resHi ∧ t.resAux = s.resAux := by
  cases exec_effect h with
  | result hr =>
    rcases hr with rfl | ⟨n, rfl⟩ | ⟨w, rfl⟩ | ⟨k, rfl⟩ | rfl | rfl | ⟨f, rfl⟩ | ⟨a, rfl⟩ <;> exact absurd hi (by simp)
  | verified a hv => exact absurd hi (by simp [hv])
  | failed | cachedVerify | noEffect | sealedBuffer | released | sliced | unsliced => exact ⟨rfl, rfl, rfl⟩

/-- Settles O9: one lemma for each clause, each read off the list of a command's effects. -/
theorem commandsWriteOnlyWhatTheyName : Obligations.CommandsWriteOnlyWhatTheyName := by
  intro i s t h
  exact ⟨exec_frame h, exec_bufByte h, fun hseal hrelease => exec_keeps_sealed hseal hrelease h,
    fun hseal hrelease hslice hunslice => exec_keeps_view hseal hrelease hslice hunslice h,
    fun hseal hrelease hverify => exec_keeps_validity hseal hrelease hverify h, exec_keeps_results h⟩

end Sys2Proof.Proofs
end

section
/-! PROOFS. FIELD (40 R106): its outcomes, and its agreement with UINT over consecutive offsets. -/

namespace Sys2Proof.Proofs

open Sys2Proof.Machine Sys2Proof.Safety Sys2Proof.Laws

/-! ### The outcomes of FIELD -/

theorem exec_field_of_unsealed {s : State} (hs : s.isSealed = false) (w : Nat) :
    exec (.field w) s = .next (complete .notSealed false s) := if_pos hs

theorem exec_field_of_wide {s : State} (hs : s.isSealed = true) {w : Nat} (hw : 64 < w) :
    exec (.field w) s = .next (complete .badArg false s) :=
  (if_neg (by simp [hs])).trans (if_pos hw)

/-- FIELD past its width check: the field's end against the view, then the bits. -/
theorem exec_field_of_legal {s : State} (hs : s.isSealed = true) {w : Nat} (hw : w ≤ 64) :
    exec (.field w) s = if 0 < w ∧ s.vlen.toNat < s.arg0.toNat + w then .next (complete .bounds false s)
      else extractBits s (span s.arg0.toNat w) := by
  rw [← fieldIndices_eq_span]
  exact (if_neg (by simp [hs])).trans (if_neg (by omega))

/-- Settles O16: one clause for each check in their order; a field in the view assembles to the sum. -/
theorem fieldOutcomes : Obligations.FieldOutcomes := by
  refine ⟨fun w hw => encode_eq_ofNat (EncodingShape.field w) hw, fun w s hview => ?_⟩
  intro js
  have hlen : js.length = w := by simp [js, span]
  refine ⟨fun hs => exec_field_of_unsealed hs w, fun hs hwide => exec_field_of_wide hs hwide,
    fun hs hpos hw hout => ?_, fun hs hw hin => ⟨?_, ?_⟩⟩
  · rw [exec_field_of_legal hs hw, if_pos ⟨hpos, hout⟩]
  · exact hlen ▸ assembled_lt s js
  · have hinside : ∀ j ∈ js, j < s.vlen.toNat := fun j hj => by
      have := mem_span.mp hj
      omega
    rw [exec_field_of_legal hs hw, if_neg (by omega), extractBits_of_lt_vlen hview hs hinside, hlen]
    rfl

/-! ### FIELD and UINT (40 R106) -/

theorem exec_uint_of_unsealed {s : State} (hs : s.isSealed = false) (n : Nat) :
    exec (.uint n) s = .next (complete .notSealed false s) := if_pos hs

theorem exec_uint_of_wide {s : State} (hs : s.isSealed = true) {n : Nat} (hn : 64 < n) :
    exec (.uint n) s = .next (complete .badArg false s) :=
  (if_neg (by simp [hs])).trans (if_pos hn)

/-- UINT past its count check: the offsets against the view, then the bits. -/
theorem exec_uint_of_legal {s : State} (hs : s.isSealed = true) {n : Nat} (hn : n ≤ 64) :
    exec (.uint n) s = if ∃ j ∈ offsIndices s n, s.vlen.toNat ≤ j then .next (complete .bounds false s)
      else extractBits s (offsIndices s n) :=
  (if_neg (by simp [hs])).trans (if_neg (by omega))

/-- A span has an index at or beyond `n` exactly when it is not empty and ends beyond `n`. -/
theorem exists_mem_span_le_iff (start width n : Nat) :
    (∃ j ∈ span start width, n ≤ j) ↔ 0 < width ∧ n < start + width := by
  constructor
  · rintro ⟨j, hj, hn⟩
    have := mem_span.mp hj
    omega
  · rintro ⟨hpos, hlt⟩
    exact ⟨start + width - 1, mem_span.mpr (by omega), by omega⟩

/-- Settles O19: the offsets UINT lists are the field's span, which ends in the view exactly when each of them lies
in it. -/
theorem fieldEqualsUintOverConsecutiveOffsets : Obligations.FieldEqualsUintOverConsecutiveOffsets := by
  intro w s hoffs
  rcases Bool.eq_false_or_eq_true s.isSealed with hs | hs
  · by_cases hw : w ≤ 64
    · have hsame : offsIndices s w = span s.arg0.toNat w := by
        rw [offsIndices_eq_map_range s hw]
        exact List.map_congr_left fun k hk => hoffs k (by have := List.mem_range.mp hk; omega)
      rw [exec_field_of_legal hs hw, exec_uint_of_legal hs hw, hsame]
      simp only [exists_mem_span_le_iff]
    · rw [exec_field_of_wide hs (by omega), exec_uint_of_wide hs (by omega)]
  · rw [exec_field_of_unsealed hs, exec_uint_of_unsealed hs]

end Sys2Proof.Proofs
end

section
/-! PROOFS. The invariant of the block: after power-on, kept by every step, and enough for every step to have a next
state (10 R27, R38, 70 R226, 20 R76); and what a sealed buffer keeps (10 R37, 20 R77). -/

namespace Sys2Proof.Proofs

open Sys2Proof.Machine Sys2Proof.Safety

/-! ### The invariant after power-on and after every reset (70 R221) -/

theorem inv_freshBlock {n : Nat} {m : Memory} (hn : Config.minBufBytes ≤ n ∧ n ≤ Config.maxBufBytes)
    (hm : m.wf ∧ ∀ c ∈ m, bufBase ≤ c.1 ∧ c.1 < bufBase + n) (p : Nat) (waits : List Nat) (agenda : List Turn)
    (rs : List Response) : Inv (freshBlock n m p waits agenda rs) :=
  ⟨hn, hm, ⟨nofun, fun _ => ⟨rfl, rfl, rfl⟩⟩, ⟨rfl, nofun, fun _ => rfl⟩, nofun⟩

theorem inv_powerOn {n : Nat} (hn : Config.minBufBytes ≤ n ∧ n ≤ Config.maxBufBytes) (waits : List Nat) :
    Inv (State.powerOn n waits) :=
  inv_freshBlock hn ⟨List.Pairwise.nil, nofun⟩ 0 waits [] []

/-- Settles O38: power-on leaves a fresh block with no byte of BUF listed. -/
theorem powerOnMeetsInvariant : Obligations.PowerOnMeetsInvariant :=
  ⟨fun _ waits hmin hmax => inv_powerOn ⟨hmin, hmax⟩ waits, inv_powerOn (by decide) []⟩

/-! ### The engine keeps the invariant -/

/-- A completion makes the engine idle; it needs no step left to take, and a reason for CACHED. -/
theorem inv_complete {c : ErrCode} {k : Bool} {s : State} (hsize : LegalSize s) (hram : RamOk s) (hview : ViewOk s)
    (hn : s.progress = 0) (hcached : k = true → c = .ok ∧ s.validity ≠ .none) : Inv (complete c k s) :=
  ⟨hsize, hram, hview, ⟨rfl, nofun, fun _ => hn⟩, hcached⟩

theorem viewOk_of_sealed {s : State} (hs : s.isSealed = true) (hlen : s.bufLen.toNat ≤ 8 * s.bufBytes)
    (hbase : s.vbase.toNat + s.vlen.toNat ≤ s.bufLen.toNat) : ViewOk s :=
  ⟨fun _ => ⟨hbase, hlen⟩, fun hopen => absurd hs (by simp [hopen])⟩

/-- A slice of the view lies in the view (40 R107). -/
theorem slice_in_buffer {s : State} (hbase : s.vbase.toNat + s.vlen.toNat ≤ s.bufLen.toNat)
    (horder : s.arg0.toNat ≤ s.arg1.toNat) (hend : s.arg1.toNat ≤ s.vlen.toNat) :
    (s.vbase + s.arg0).toNat + (s.arg1 - s.arg0).toNat ≤ s.bufLen.toNat := by
  have hbufLen := s.bufLen.isLt
  rw [BitVec.toNat_add_of_lt (by omega), BitVec.toNat_sub_of_le horder]
  omega

/-- Every effect of a command keeps the invariant. -/
theorem exec_keeps_inv {i : Instr} {s t : State} (hinv : Inv s) (hn : s.progress = 0) (h : exec i s = .next t) :
    Inv t := by
  obtain ⟨hsize, hram, hview, -, -⟩ := hinv
  cases exec_effect h with
  | failed | noEffect | result => exact inv_complete hsize hram hview hn nofun
  | cachedVerify a hi hs hv => exact inv_complete hsize hram hview hn fun _ => ⟨rfl, hv⟩
  | sealedBuffer hi hs hl =>
    exact inv_complete hsize hram (viewOk_of_sealed rfl hl (Nat.zero_add _).le) hn nofun
  | released => exact inv_complete hsize hram ⟨nofun, fun _ => ⟨rfl, rfl, rfl⟩⟩ hn nofun
  | sliced hi hs horder hend =>
    obtain ⟨hbase, hlen⟩ := hview.1 hs
    exact inv_complete hsize hram (viewOk_of_sealed hs hlen (slice_in_buffer hbase horder hend)) hn nofun
  | unsliced hi hs =>
    obtain ⟨-, hlen⟩ := hview.1 hs
    exact inv_complete hsize hram (viewOk_of_sealed hs hlen (Nat.zero_add _).le) hn nofun
  | verified a hi hs =>
    obtain ⟨hbase, hlen⟩ := hview.1 hs
    exact inv_complete hsize hram (viewOk_of_sealed hs hlen hbase) hn nofun

theorem engineStep_keeps_inv {s t : State} (hinv : Inv s) (h : engineStep s = .next t) : Inv t := by
  rcases engineStep_cases s with ⟨-, he⟩ | ⟨w, n, hp, -, he⟩ | ⟨w, -, hn, he⟩
  · obtain rfl := Host.Outcome.next.inj (he.symm.trans h)
    exact hinv
  · obtain rfl := Host.Outcome.next.inj (he.symm.trans h)
    obtain ⟨hsize, hram, hview, ⟨hbusy, hdone, -⟩, hcached⟩ := hinv
    have hrunning : s.busy = true := by rw [hbusy, hp]; rfl
    exact ⟨hsize, hram, hview, ⟨hbusy, hdone, fun hidle => absurd hrunning (ne_true_of_eq_false hidle)⟩, hcached⟩
  · rcases runWord_cases w s with ⟨i, -, hw⟩ | ⟨e, -, hw⟩
    · exact exec_keeps_inv hinv hn (hw.symm.trans (he.symm.trans h))
    · obtain rfl := Host.Outcome.next.inj (hw.symm.trans (he.symm.trans h))
      exact inv_complete hinv.size hinv.ram hinv.view hn nofun

/-! ### The host keeps the invariant -/

theorem ramOk_setBufByte {s : State} (hram : RamOk s) {k : Nat} (hk : k < s.bufBytes) (v : Byte) :
    RamOk (setBufByte k v s) := by
  refine ⟨setBufByte_wf k v hram.1, fun c hc => ?_⟩
  rcases Memory.mem_set hc with rfl | hc
  · exact ⟨Nat.le_add_right .., Nat.add_lt_add_left hk _⟩
  · exact hram.2 c hc

theorem ramOk_setBufWord {s : State} (hram : RamOk s) {k : Nat} (hk : k + 4 ≤ s.bufBytes) (v : Word) :
    RamOk (setBufWord k v s) := by
  refine ⟨setBufWord_wf k v hram.1, fun c hc => ?_⟩
  rw [setBufWord_bufBytes]
  rcases mem_setBufWord hc with ⟨hlo, hhi⟩ | hc
  · omega
  · exact hram.2 c hc

/-- Every effect of a write keeps the invariant; a store to BUF lies in the RAM by its target. -/
theorem writeTarget_keeps_inv {s : State} (hinv : Inv s) (size : Size) (addr : BitVec 16) (v : Word) :
    Inv (writeTarget (target s.bufBytes size addr) v s) := by
  obtain ⟨hsize, hram, hview, ⟨hbusy, hdone, hidle⟩, hcached⟩ := hinv
  have heffect := writeTarget_effect (target s.bufBytes size addr) v s
  generalize writeTarget (target s.bufBytes size addr) v s = t at heffect ⊢
  cases heffect with
  | ignored | dropped | enable | overflow | operand => exact ⟨hsize, hram, hview, ⟨hbusy, hdone, hidle⟩, hcached⟩
  | softReset => exact resetBlock_eq_freshBlock s ▸ inv_freshBlock hsize hram _ _ _ _
  | clear => exact ⟨hsize, hram, hview, ⟨hbusy, fun hb => by simp [hdone hb], hidle⟩, hcached⟩
  | issued => exact ⟨hsize, hram, hview, ⟨rfl, fun _ => rfl, nofun⟩, hcached⟩
  | length hb hs =>
    have hview' : ViewOk { s with bufLen := v } := ⟨fun hsealed => absurd hsealed (ne_true_of_eq_false hs), hview.2⟩
    exact ⟨hsize, hram, hview', ⟨hbusy, hdone, hidle⟩, hcached⟩
  | byte hb hs k htarget =>
    obtain ⟨-, -, hk⟩ := target_bufByte htarget
    exact ⟨hsize, ramOk_setBufByte hram hk _, hview, ⟨hbusy, hdone, hidle⟩, hcached⟩
  | word hb hs k htarget =>
    obtain ⟨-, -, -, hk⟩ := target_bufWord htarget
    exact ⟨hsize, ramOk_setBufWord hram hk _, hview, ⟨hbusy, hdone, hidle⟩, hcached⟩

/-- The bus's answers are outside the block. -/
theorem inv_respond {s : State} (hinv : Inv s) (d : Word) (t : Target) : Inv (respond d t s) :=
  ⟨hinv.size, hinv.ram, hinv.view, hinv.engine, hinv.cached⟩

theorem serve_keeps_inv {s : State} (hinv : Inv s) (a : Access) : Inv (serve a s) := by
  cases a with
  | read size addr => exact inv_respond hinv _ _
  | write size addr v => exact inv_respond (writeTarget_keeps_inv hinv size addr v) _ _

/-- The turns to come are outside the block. -/
theorem inv_agenda {s : State} (hinv : Inv s) (rest : List Turn) : Inv { s with agenda := rest } :=
  ⟨hinv.size, hinv.ram, hinv.view, hinv.engine, hinv.cached⟩

/-- Settles O37: the engine, the host and both resets keep the invariant. -/
theorem stepKeepsInvariant : Obligations.StepKeepsInvariant := by
  intro s t hinv h
  rcases step_cases s with ⟨-, he⟩ | ⟨u, rest, -, ⟨-, he⟩ | ⟨a, -, he⟩ | ⟨-, he⟩ | ⟨-, he⟩⟩
  · exact engineStep_keeps_inv hinv (he.symm.trans h)
  · exact engineStep_keeps_inv (inv_agenda hinv rest) (he.symm.trans h)
  · obtain rfl := Host.Outcome.next.inj (he.symm.trans h)
    exact serve_keeps_inv (inv_agenda hinv rest) a
  · obtain rfl := Host.Outcome.next.inj (he.symm.trans h)
    exact inv_freshBlock hinv.size hinv.ram s.powerOns s.waits rest s.responses
  · obtain rfl := Host.Outcome.next.inj (he.symm.trans h)
    exact inv_freshBlock hinv.size ⟨List.Pairwise.nil, nofun⟩ (s.powerOns + 1) s.waits rest s.responses

/-! ### Every step of a state of the invariant has a next state (20 R76) -/

theorem exists_exec_bit {s : State} (hview : ViewOk s) : ∃ t, exec .bit s = .next t := by
  obtain ⟨hopen, hbounds, hin⟩ := bitOutcomes.2 s hview
  rcases Bool.eq_false_or_eq_true s.isSealed with hs | hs
  · rcases Nat.lt_or_ge s.arg0.toNat s.vlen.toNat with hlt | hge
    · exact ⟨_, hin hs hlt⟩
    · exact ⟨_, hbounds hs hge⟩
  · exact ⟨_, hopen hs⟩

/-- The indices that UINT and FIELD read are in the view, so the read does not stop the machine. -/
theorem exists_extractBits {s : State} (hview : ViewOk s) (hs : s.isSealed = true) {js : List Nat}
    (hjs : ¬ ∃ j ∈ js, s.vlen.toNat ≤ j) : ∃ t, extractBits s js = .next t :=
  ⟨_, extractBits_of_lt_vlen hview hs fun j hj => Nat.lt_of_not_le fun hle => hjs ⟨j, hj, hle⟩⟩

theorem exists_exec_uint {s : State} (hview : ViewOk s) (n : Nat) : ∃ t, exec (.uint n) s = .next t := by
  rcases Bool.eq_false_or_eq_true s.isSealed with hs | hs
  · by_cases hn : n ≤ 64
    · rw [exec_uint_of_legal hs hn]
      split
      next => exact ⟨_, rfl⟩
      next hin => exact exists_extractBits hview hs hin
    · exact ⟨_, exec_uint_of_wide hs (by omega)⟩
  · exact ⟨_, exec_uint_of_unsealed hs n⟩

theorem exists_exec_field {s : State} (hview : ViewOk s) (w : Nat) : ∃ t, exec (.field w) s = .next t := by
  rcases Bool.eq_false_or_eq_true s.isSealed with hs | hs
  · by_cases hw : w ≤ 64
    · rw [exec_field_of_legal hs hw]
      split
      next => exact ⟨_, rfl⟩
      next hin => exact exists_extractBits hview hs (mt (exists_mem_span_le_iff ..).mp hin)
    · exact ⟨_, exec_field_of_wide hs (by omega)⟩
  · exact ⟨_, exec_field_of_unsealed hs w⟩

/-- The shared checks of VERIFY and CRCCALC never stop the machine; what follows them runs with legal segments. -/
theorem exists_withSlot {a : Nat} {s : State} {go : AlgSlot → Result}
    (hgo : ∀ slot, protError s = none → ∃ t, go slot = .next t) : ∃ t, withSlot a s go = .next t := by
  by_cases ha : a < 4
  · rcases withSlot_cases ha s go with ⟨e, he⟩ | ⟨-, hprot, he⟩
    · exact ⟨_, he⟩
    · rw [he]
      exact hgo _ hprot
  · exact ⟨_, withSlot_of_no_slot (by omega) s go⟩

theorem exists_exec_verify {s : State} (hview : ViewOk s) (a : Nat) : ∃ t, exec (.verify a) s = .next t := by
  rcases Bool.eq_false_or_eq_true s.isSealed with hs | hs
  · by_cases hv : s.validity = .none
    · rw [exec_verify_of_fresh hs hv]
      refine exists_withSlot fun slot hprot => ?_
      rcases Nat.lt_or_ge s.vlen.toNat (s.arg0.toNat + slot.width.toNat) with hout | hc
      · exact ⟨_, verifyBySlot_of_beyondView hout⟩
      · obtain ⟨-, hsegs⟩ := (protError_eq_none_iff s).mp hprot
        exact ⟨_, (verifyBySlot_eq_next hc).mpr ⟨readsInRam_of_view hview hs hsegs hc, rfl⟩⟩
    · exact ⟨_, exec_verify_of_validity hs hv a⟩
  · exact ⟨_, exec_verify_of_unsealed hs a⟩

theorem exists_exec_crccalc {s : State} (hview : ViewOk s) (a : Nat) : ∃ t, exec (.crccalc a) s = .next t := by
  rcases Bool.eq_false_or_eq_true s.isSealed with hs | hs
  · rw [exec_crccalc_of_sealed hs]
    refine exists_withSlot fun slot hprot => ?_
    obtain ⟨-, hsegs⟩ := (protError_eq_none_iff s).mp hprot
    rw [protIndices_eq_protectedSpan,
      withBits_of_inRam fun j hj => inRam_of_lt_vlen hview hs (lt_vlen_of_mem_protectedSpan hsegs hj)]
    exact ⟨_, rfl⟩
  · exact ⟨_, exec_crccalc_of_unsealed hs a⟩

/-- No command stops the machine while the view lies in the buffer: BIT, UINT, FIELD, VERIFY and CRCCALC check their
indices against the view, and the others read no bit of the buffer. -/
theorem exists_exec {s : State} (hview : ViewOk s) (i : Instr) : ∃ t, exec i s = .next t := by
  cases i with
  | bit => exact exists_exec_bit hview
  | uint n => exact exists_exec_uint hview n
  | field w => exact exists_exec_field hview w
  | verify a => exact exists_exec_verify hview a
  | crccalc a => exact exists_exec_crccalc hview a
  | nop | lat | lon => exact ⟨_, rfl⟩
  | sealBuf =>
    simp only [exec, execSeal]
    split_ifs <;> exact ⟨_, rfl⟩
  | release =>
    simp only [exec, execRelease]
    split_ifs <;> exact ⟨_, rfl⟩
  | slice =>
    simp only [exec, execSlice]
    split_ifs <;> exact ⟨_, rfl⟩
  | unslice =>
    simp only [exec, execUnslice]
    split_ifs <;> exact ⟨_, rfl⟩
  | timer k =>
    simp only [exec, execTimer]
    split
    · split_ifs <;> exact ⟨_, rfl⟩
    · exact ⟨_, rfl⟩
  | scale f =>
    simp only [exec, execScale]
    split <;> exact ⟨_, rfl⟩

theorem exists_runWord {s : State} (hview : ViewOk s) (w : Word) : ∃ t, runWord w s = .next t := by
  rcases runWord_cases w s with ⟨i, -, hw⟩ | ⟨e, -, hw⟩
  · rw [hw]
    exact exists_exec hview i
  · exact ⟨_, hw⟩

theorem exists_engineStep {s : State} (hview : ViewOk s) : ∃ t, engineStep s = .next t := by
  rcases engineStep_cases s with ⟨-, he⟩ | ⟨w, n, -, -, he⟩ | ⟨w, -, -, he⟩
  · exact ⟨_, he⟩
  · exact ⟨_, he⟩
  · rw [he]
    exact exists_runWord hview w

/-- Settles O39: only the engine's turn could stop the machine, and no command does. -/
theorem invariantStatesNeverStop : Obligations.InvariantStatesNeverStop := by
  intro s hinv
  rcases step_cases s with ⟨-, he⟩ | ⟨u, rest, -, ⟨-, he⟩ | ⟨a, -, he⟩ | ⟨-, he⟩ | ⟨-, he⟩⟩
  · rw [he]
    exact exists_engineStep hinv.view
  · rw [he]
    exact exists_engineStep (inv_agenda hinv rest).view
  · exact ⟨_, he⟩
  · exact ⟨_, he⟩
  · exact ⟨_, he⟩

/-! ### The sealed buffer (10 R37, 20 R77) -/

/-- BUF and BUF_LEN read the same in both states. -/
def BufferKept (s t : State) : Prop := (∀ k, bufByte t k = bufByte s k) ∧ t.bufLen = s.bufLen

theorem bufferKept_of_eq {s t : State} (hm : t.mem = s.mem) (hp : t.powerOns = s.powerOns) (hl : t.bufLen = s.bufLen) :
    BufferKept s t := ⟨bufByte_congr hm hp, hl⟩

/-- The engine writes neither BUF nor BUF_LEN, sealed or not (20 R76). -/
theorem engineStep_keeps_buffer {s t : State} (h : engineStep s = .next t) : BufferKept s t := by
  rcases engineStep_cases s with ⟨-, he⟩ | ⟨w, n, -, -, he⟩ | ⟨w, -, -, he⟩
  · obtain rfl := Host.Outcome.next.inj (he.symm.trans h)
    exact bufferKept_of_eq rfl rfl rfl
  · obtain rfl := Host.Outcome.next.inj (he.symm.trans h)
    exact bufferKept_of_eq rfl rfl rfl
  · rcases runWord_cases w s with ⟨i, -, hw⟩ | ⟨e, -, hw⟩
    · have hexec := hw.symm.trans (he.symm.trans h)
      exact ⟨exec_bufByte hexec, by rw [exec_frame hexec]⟩
    · obtain rfl := Host.Outcome.next.inj (hw.symm.trans (he.symm.trans h))
      exact bufferKept_of_eq rfl rfl rfl

/-- A write to a sealed block changes BUF or BUF_LEN only by a reset, which opens it. -/
theorem writeTarget_keeps_buffer {s : State} {t : Target} {v : Word} (hs : s.isSealed = true)
    (ht : (writeTarget t v s).isSealed = true) : BufferKept s (writeTarget t v s) := by
  have heffect := writeTarget_effect t v s
  generalize writeTarget t v s = u at ht heffect ⊢
  cases heffect with
  | ignored | dropped | enable | clear | overflow | issued | operand => exact bufferKept_of_eq rfl rfl rfl
  | softReset => cases ht
  | length _ hopen | byte _ hopen | word _ hopen => exact absurd hs (by simp [hopen])

theorem serve_keeps_buffer {a : Access} {s : State} (hs : s.isSealed = true) (ht : (serve a s).isSealed = true) :
    BufferKept s (serve a s) := by
  cases a with
  | read size addr => exact bufferKept_of_eq rfl rfl rfl
  | write size addr v => exact writeTarget_keeps_buffer hs ht

/-- Settles O40: the engine writes neither, the host's stores are locked, and every reset opens the buffer. -/
theorem sealedBufferNeverChanges : Obligations.SealedBufferNeverChanges := by
  intro s t hs h ht
  rcases step_cases s with ⟨-, he⟩ | ⟨u, rest, -, ⟨-, he⟩ | ⟨a, -, he⟩ | ⟨-, he⟩ | ⟨-, he⟩⟩
  · exact engineStep_keeps_buffer (he.symm.trans h)
  · exact engineStep_keeps_buffer (s := { s with agenda := rest }) (he.symm.trans h)
  · obtain rfl := Host.Outcome.next.inj (he.symm.trans h)
    exact serve_keeps_buffer (s := { s with agenda := rest }) hs ht
  · obtain rfl := Host.Outcome.next.inj (he.symm.trans h)
    cases ht
  · obtain rfl := Host.Outcome.next.inj (he.symm.trans h)
    cases ht

end Sys2Proof.Proofs
end

section
/-! PROOFS. What a command's outcome depends on: the bits of the view (40 R110, 20 R76) and nothing the host does while
it runs (70 R228, 20 R71); its completion within a bound (70 R231); and the two reset sources (70 R220). -/

namespace Sys2Proof.Proofs

open Sys2Proof.Machine Sys2Proof.Safety

/-! ### Commands in other surroundings

A command writes neither BUF nor the host's flags, and of these it reads the bits of the view alone. So it commutes with
every change of them that keeps the bits of the view. -/

/-- What no command writes and of which a command reads the bits of the view alone. -/
structure Surroundings where
  /-- BUF -/
  mem : Memory
  /-- the number of the power-on, which gives BUF its unwritten bytes -/
  powerOns : Nat
  /-- CTRL.IE -/
  ie : Bool
  /-- STATUS.WERR -/
  werr : Bool
  /-- STATUS.OVF -/
  ovf : Bool
  /-- the bus's answers -/
  responses : List Response

/-- `s` in the surroundings `o`. -/
def Surroundings.put (o : Surroundings) (s : State) : State :=
  { s with mem := o.mem, powerOns := o.powerOns, ie := o.ie, werr := o.werr, ovf := o.ovf, responses := o.responses }

/-- `s` in the surroundings `o` and with another value in DONE, which every completion sets. -/
def Surroundings.putDone (o : Surroundings) (d : Bool) (s : State) : State := { o.put s with done := d }

/-- The surroundings keep every bit of the view. -/
def Surroundings.KeepsView (o : Surroundings) (s : State) : Prop :=
  ∀ j < s.vlen.toNat, viewBit (o.put s) j = viewBit s j

section InSurroundings

variable {o : Surroundings} {d : Bool} {s : State}

theorem withBits_putDone (hview : o.KeepsView s) {js : List Nat} (hjs : ∀ j ∈ js, j < s.vlen.toNat)
    (go : List Bool → Result) : withBits (o.putDone d s) js go = withBits s js go := by
  have hbits : js.map (viewBit (o.putDone d s)) = js.map (viewBit s) :=
    List.map_congr_left fun j hj => hview j (hjs j hj)
  unfold withBits readView
  rw [hbits]
  rfl

theorem exec_bit_putDone (hview : o.KeepsView s) : exec .bit (o.putDone d s) = mapNext o.put (exec .bit s) := by
  by_cases hin : s.arg0.toNat < s.vlen.toNat
  · have hjs : ∀ j ∈ [s.arg0.toNat], j < s.vlen.toNat := by simpa using hin
    simp only [exec, execBit, apply_ite (mapNext _), mapNext_withBits, ← withBits_putDone (d := d) hview hjs]
    rfl
  · have hbounds : ∀ u : State, u.vlen.toNat ≤ u.arg0.toNat → exec .bit u =
        if u.isSealed = false then raiseError .notSealed u else raiseError .bounds u := fun u hout => by
      simp only [exec, execBit, if_pos hout]
    rw [hbounds s (Nat.le_of_not_lt hin), hbounds (o.putDone d s) (Nat.le_of_not_lt hin), apply_ite (mapNext _)]
    rfl

theorem extractBits_putDone (hview : o.KeepsView s) {js : List Nat} (hjs : ¬ ∃ j ∈ js, s.vlen.toNat ≤ j) :
    extractBits (o.putDone d s) js = mapNext o.put (extractBits s js) := by
  have hin : ∀ j ∈ js, j < s.vlen.toNat := fun j hj => Nat.lt_of_not_le fun hle => hjs ⟨j, hj, hle⟩
  rw [extractBits, withBits_putDone hview hin, extractBits, mapNext_withBits]
  rfl

theorem exec_uint_putDone (hview : o.KeepsView s) (n : Nat) :
    exec (.uint n) (o.putDone d s) = mapNext o.put (exec (.uint n) s) := by
  rcases Bool.eq_false_or_eq_true s.isSealed with hs | hs
  · by_cases hn : n ≤ 64
    · rw [exec_uint_of_legal hs hn, exec_uint_of_legal (s := o.putDone d s) hs hn, apply_ite (mapNext _)]
      exact ite_congr rfl (fun _ => rfl) (extractBits_putDone hview)
    · rw [exec_uint_of_wide hs (by omega), exec_uint_of_wide (s := o.putDone d s) hs (by omega)]
      rfl
  · rw [exec_uint_of_unsealed hs, exec_uint_of_unsealed (s := o.putDone d s) hs]
    rfl

theorem exec_field_putDone (hview : o.KeepsView s) (w : Nat) :
    exec (.field w) (o.putDone d s) = mapNext o.put (exec (.field w) s) := by
  rcases Bool.eq_false_or_eq_true s.isSealed with hs | hs
  · by_cases hw : w ≤ 64
    · rw [exec_field_of_legal hs hw, exec_field_of_legal (s := o.putDone d s) hs hw, apply_ite (mapNext _)]
      exact ite_congr rfl (fun _ => rfl) fun hin => extractBits_putDone hview (mt (exists_mem_span_le_iff ..).mp hin)
    · rw [exec_field_of_wide hs (by omega), exec_field_of_wide (s := o.putDone d s) hs (by omega)]
      rfl
  · rw [exec_field_of_unsealed hs, exec_field_of_unsealed (s := o.putDone d s) hs]
    rfl

theorem exec_timer_putDone (k : Nat) : exec (.timer k) (o.putDone d s) = mapNext o.put (exec (.timer k) s) := by
  by_cases hk : k < 4
  · by_cases hbad : s.tcfg[k].toNat = 0 ∨ 16 < s.tcfg[k].toNat ∨ 2 ^ s.tcfg[k].toNat ≤ s.arg0.toNat
    · rw [exec_timer_badArg hk hbad, exec_timer_badArg (s := o.putDone d s) hk hbad]
      rfl
    · have hw1 : 1 ≤ s.tcfg[k].toNat := by omega
      have hw16 : s.tcfg[k].toNat ≤ 16 := by omega
      have hraw : s.arg0.toNat < 2 ^ s.tcfg[k].toNat := by omega
      rw [exec_timer_of_legal hk hw1 hw16 hraw rfl, exec_timer_of_legal (s := o.putDone d s) hk hw1 hw16 hraw rfl]
      rfl
  · rw [exec_timer_of_no_table (by omega), exec_timer_of_no_table (by omega)]
    rfl

theorem exec_scale_putDone (f : Nat) : exec (.scale f) (o.putDone d s) = mapNext o.put (exec (.scale f) s) := by
  by_cases hf : f ≤ 2
  · rw [exec_scale_of_le hf, exec_scale_of_le hf]
    rfl
  · simp only [exec, execScale, scaleRow_of_gt (Nat.lt_of_not_le hf)]
    rfl

/-- The shared checks look at no bit of the buffer; what follows them runs with legal segments. -/
theorem withSlot_putDone {a : Nat} {go go' : AlgSlot → Result}
    (hgo : ∀ slot, protError s = none → go' slot = mapNext o.put (go slot)) :
    withSlot a (o.putDone d s) go' = mapNext o.put (withSlot a s go) := by
  by_cases ha : a < 4
  · by_cases hw : s.alg[a].BadWidth
    · rw [withSlot_of_badWidth ha hw, withSlot_of_badWidth (s := o.putDone d s) ha hw]
      rfl
    · cases he : protError s with
      | some e =>
        rw [withSlot_of_protError ha hw he, withSlot_of_protError (s := o.putDone d s) ha hw he]
        rfl
      | none =>
        rw [withSlot_of_legal ha hw he, withSlot_of_legal (s := o.putDone d s) ha hw he]
        exact hgo _ he
  · rw [withSlot_of_no_slot (by omega), withSlot_of_no_slot (by omega)]
    rfl

theorem lt_vlen_of_mem_protIndices (he : protError s = none) {j : Nat} (hj : j ∈ protIndices s) : j < s.vlen.toNat := by
  rw [protIndices_eq_protectedSpan] at hj
  exact lt_vlen_of_mem_protectedSpan ((protError_eq_none_iff s).mp he).2 hj

theorem verifyBySlot_putDone (hview : o.KeepsView s) {slot : AlgSlot} (he : protError s = none) :
    verifyBySlot (o.putDone d s) slot = mapNext o.put (verifyBySlot s slot) := by
  rcases Nat.lt_or_ge s.vlen.toNat (s.arg0.toNat + slot.width.toNat) with hout | hc
  · rw [verifyBySlot_of_beyondView hout, verifyBySlot_of_beyondView (s := o.putDone d s) hout]
    rfl
  · have hprot : ∀ j ∈ protIndices s, j < s.vlen.toNat := fun j hj => lt_vlen_of_mem_protIndices he hj
    have hcheck : ∀ j ∈ fieldIndices s.arg0.toNat slot.width.toNat, j < s.vlen.toNat := fun j hj => by
      have := List.mem_range'_1.mp hj
      omega
    simp only [verifyBySlot, apply_ite (mapNext _), mapNext_withBits, ← withBits_putDone (d := d) hview hprot,
      ← withBits_putDone (d := d) hview hcheck]
    rfl

theorem exec_verify_putDone (hview : o.KeepsView s) (a : Nat) :
    exec (.verify a) (o.putDone d s) = mapNext o.put (exec (.verify a) s) := by
  rcases Bool.eq_false_or_eq_true s.isSealed with hs | hs
  · by_cases hv : s.validity = .none
    · rw [exec_verify_of_fresh hs hv, exec_verify_of_fresh (s := o.putDone d s) hs hv]
      exact withSlot_putDone fun slot he => verifyBySlot_putDone hview he
    · rw [exec_verify_of_validity hs hv, exec_verify_of_validity (s := o.putDone d s) hs hv]
      rfl
  · rw [exec_verify_of_unsealed hs, exec_verify_of_unsealed (s := o.putDone d s) hs]
    rfl

theorem exec_crccalc_putDone (hview : o.KeepsView s) (a : Nat) :
    exec (.crccalc a) (o.putDone d s) = mapNext o.put (exec (.crccalc a) s) := by
  rcases Bool.eq_false_or_eq_true s.isSealed with hs | hs
  · rw [exec_crccalc_of_sealed hs, exec_crccalc_of_sealed (s := o.putDone d s) hs]
    refine withSlot_putDone fun slot he => ?_
    rw [mapNext_withBits, ← withBits_putDone (d := d) hview fun j hj => lt_vlen_of_mem_protIndices he hj]
    rfl
  · rw [exec_crccalc_of_unsealed hs, exec_crccalc_of_unsealed (s := o.putDone d s) hs]
    rfl

/-- Every command commutes with a change of the surroundings that keeps the bits of the view. -/
theorem exec_putDone (hview : o.KeepsView s) (i : Instr) : exec i (o.putDone d s) = mapNext o.put (exec i s) := by
  cases i with
  | bit => exact exec_bit_putDone hview
  | uint n => exact exec_uint_putDone hview n
  | field w => exact exec_field_putDone hview w
  | timer k => exact exec_timer_putDone k
  | scale f => exact exec_scale_putDone f
  | verify a => exact exec_verify_putDone hview a
  | crccalc a => exact exec_crccalc_putDone hview a
  | nop | lat | lon => rfl
  | sealBuf =>
    simp only [exec, execSeal, apply_ite (mapNext _)]
    rfl
  | release =>
    simp only [exec, execRelease, apply_ite (mapNext _)]
    rfl
  | slice =>
    simp only [exec, execSlice, apply_ite (mapNext _)]
    rfl
  | unslice =>
    simp only [exec, execUnslice, apply_ite (mapNext _)]
    rfl

end InSurroundings

/-- Settles O22: the other buffer is a change of the surroundings that leaves the host's flags. -/
theorem outcomesDependOnTheViewOnly : Obligations.OutcomesDependOnTheViewOnly := by
  intro i s t m n hagree h
  let o : Surroundings := ⟨m, n, s.ie, s.werr, s.ovf, s.responses⟩
  have hout : o.put t = { t with mem := m, powerOns := n } := by
    rw [exec_frame h]
    rfl
  have hin : { s with mem := m, powerOns := n } = o.putDone s.done s := rfl
  have hview : o.KeepsView s := hagree
  rw [hin, exec_putDone hview, h, ← hout, mapNext]

/-! ### The host's accesses while a command runs (70 R228, R229, 20 R71) -/

/-- The two states differ at most in the flags that the host may change while a command runs, and the bus's answers. -/
def OnlyFlagsDiffer (s f : State) : Prop :=
  f = { s with ie := f.ie, werr := f.werr, ovf := f.ovf, done := f.done, responses := f.responses }

theorem OnlyFlagsDiffer.refl (s : State) : OnlyFlagsDiffer s s := rfl

theorem OnlyFlagsDiffer.trans {s f g : State} (h1 : OnlyFlagsDiffer s f) (h2 : OnlyFlagsDiffer f g) :
    OnlyFlagsDiffer s g := by
  unfold OnlyFlagsDiffer at *
  rw [h1] at h2
  exact h2

theorem OnlyFlagsDiffer.busy {s f : State} (h : OnlyFlagsDiffer s f) : f.busy = s.busy := by rw [h]

/-- While a command runs, an access that does not reset the block changes only flags: operands, tables and BUF are
locked, and a second command is dropped. -/
theorem serve_onlyFlagsDiffer {s : State} (hbusy : s.busy = true) {a : Access} (ha : resets a = false) :
    OnlyFlagsDiffer s (serve a s) := by
  cases a with
  | read size addr => rfl
  | write size addr v =>
    have heffect := writeTarget_effect (target s.bufBytes size addr) v s
    rw [serve_write]
    generalize writeTarget (target s.bufBytes size addr) v s = t at heffect ⊢
    cases heffect with
    | ignored | dropped | enable | clear | overflow => rfl
    | softReset hctrl hv =>
      obtain ⟨rfl, rfl⟩ := eq_regAddr_of_target hctrl
      exact absurd ((resets_iff _).mpr ⟨v, rfl, hv⟩) (by simp [ha])
    | issued _ hidle | operand hidle | length hidle | byte hidle | word hidle => exact absurd hbusy (by simp [hidle])

theorem foldl_serve_onlyFlagsDiffer (accesses : List Access) {s : State} (hbusy : s.busy = true)
    (hquiet : ∀ a ∈ accesses, resets a = false) :
    OnlyFlagsDiffer s (accesses.foldl (fun u a => serve a u) s) := by
  induction accesses generalizing s with
  | nil => exact .refl s
  | cons a accesses ih =>
    obtain ⟨ha, hrest⟩ := List.forall_mem_cons.mp hquiet
    have hfirst := serve_onlyFlagsDiffer hbusy ha
    exact hfirst.trans (ih (hfirst.busy.trans hbusy) hrest)

/-- Settles O42: the accesses change the command's surroundings and DONE, and leave BUF. -/
theorem outcomeIndependentOfAccessesWhileBusy : Obligations.OutcomeIndependentOfAccessesWhileBusy := by
  intro i s t accesses hbusy hquiet h f
  let o : Surroundings := ⟨s.mem, s.powerOns, f.ie, f.werr, f.ovf, f.responses⟩
  have hf : f = o.putDone f.done s := foldl_serve_onlyFlagsDiffer accesses hbusy hquiet
  have hout : o.put t = { t with ie := f.ie, werr := f.werr, ovf := f.ovf, responses := f.responses } := by
    rw [exec_frame h]
    rfl
  have hview : o.KeepsView s := fun _ _ => rfl
  rw [hf, exec_putDone hview, h, ← hf, ← hout, mapNext]

/-! ### Completion within a bound (70 R231) -/

/-- The command is over: BUSY 0, DONE 1, PENDING empty. -/
def Completed (s : State) : Prop := s.busy = false ∧ s.done = true ∧ s.pending = none

/-- A running block that meets the invariant and has no reset to come. -/
structure RunsQuietly (s : State) : Prop where
  /-- the invariant -/
  inv : Inv s
  /-- RUNNING -/
  busy : s.busy = true
  /-- no turn of the agenda resets -/
  quiet : ∀ u ∈ s.agenda, quietTurn u = true

/-- The turns still to come and the engine's internal steps left. -/
def stepsLeft (s : State) : Nat := s.agenda.length + s.progress

theorem RunsQuietly.pending {s : State} (h : RunsQuietly s) : ∃ w, s.pending = some w := by
  obtain ⟨hbusy, -, -⟩ := h.inv.engine
  exact Option.isSome_iff_exists.mp (hbusy.symm.trans h.busy)

/-- The engine's step of a running block completes the command or is one of the internal steps left. -/
theorem engineStep_of_runsQuietly {s : State} (h : RunsQuietly s) :
    ∃ t, engineStep s = .next t ∧ (Completed t ∨ RunsQuietly t ∧ stepsLeft t < stepsLeft s) := by
  obtain ⟨w, hp⟩ := h.pending
  cases hn : s.progress with
  | zero =>
    obtain ⟨t, ht⟩ := exists_runWord h.inv.view w
    obtain ⟨hbusy, hpending⟩ := runWord_idle ht
    obtain ⟨hdone, -, -, -⟩ := runWord_flags ht
    exact ⟨t, (engineStep_completing hp hn).trans ht, .inl ⟨hbusy, hdone, hpending⟩⟩
  | succ n =>
    have he := engineStep_internal hp hn
    refine ⟨_, he, .inr ⟨⟨engineStep_keeps_inv h.inv he, h.busy, h.quiet⟩, ?_⟩⟩
    show s.agenda.length + n < s.agenda.length + s.progress
    omega

/-- With its first turn used up a running block still runs quietly, and has one step less to go. -/
theorem RunsQuietly.tail {s : State} (h : RunsQuietly s) {u : Turn} {rest : List Turn} (ha : s.agenda = u :: rest) :
    RunsQuietly { s with agenda := rest } ∧ stepsLeft { s with agenda := rest } < stepsLeft s := by
  refine ⟨⟨inv_agenda h.inv rest, h.busy, fun v hv => h.quiet v (by rw [ha]; exact List.mem_cons_of_mem u hv)⟩, ?_⟩
  show rest.length + s.progress < s.agenda.length + s.progress
  rw [ha, List.length_cons]
  omega

/-- The host's access, if it does not reset, neither ends the command nor changes what it has left to do. -/
theorem serve_of_runsQuietly {s : State} (h : RunsQuietly s) {a : Access} (ha : resets a = false) :
    RunsQuietly (serve a s) ∧ stepsLeft (serve a s) = stepsLeft s := by
  have hflags := serve_onlyFlagsDiffer h.busy ha
  have hagenda : (serve a s).agenda = s.agenda := by rw [hflags]
  have hprogress : (serve a s).progress = s.progress := by rw [hflags]
  exact ⟨⟨serve_keeps_inv h.inv a, hflags.busy.trans h.busy, hagenda.symm ▸ h.quiet⟩,
    by rw [stepsLeft, stepsLeft, hagenda, hprogress]⟩

/-- Every step of a running block with no reset to come completes the command or comes closer to it. -/
theorem step_of_runsQuietly {s : State} (h : RunsQuietly s) :
    ∃ t, step s = .next t ∧ (Completed t ∨ RunsQuietly t ∧ stepsLeft t < stepsLeft s) := by
  rcases step_cases s with ⟨-, he⟩ | ⟨u, rest, ha, hturn⟩
  · rw [he]
    exact engineStep_of_runsQuietly h
  obtain ⟨htail, hless⟩ := h.tail ha
  have hu : quietTurn u = true := h.quiet u (by rw [ha]; exact List.mem_cons_self)
  rcases hturn with ⟨-, he⟩ | ⟨a, rfl, he⟩ | ⟨rfl, -⟩ | ⟨rfl, -⟩
  · obtain ⟨t, ht, hdone | ⟨hruns, hlt⟩⟩ := engineStep_of_runsQuietly htail
    · exact ⟨t, he.trans ht, .inl hdone⟩
    · exact ⟨t, he.trans ht, .inr ⟨hruns, hlt.trans hless⟩⟩
  · obtain ⟨hruns, hsame⟩ := serve_of_runsQuietly htail (a := a) (by simpa [quietTurn] using hu)
    exact ⟨_, he, .inr ⟨hruns, hsame ▸ hless⟩⟩
  · cases hu
  · cases hu

theorem run_succ_of_step {s t : State} (h : step s = .next t) (n : Nat) :
    Host.Core.run Sys2Proof.core (n + 1) s = Host.Core.run Sys2Proof.core n t := by
  have hcore : Sys2Proof.core.step s = .next t := h
  simp only [Host.Core.run, hcore]

/-- A running block with no reset to come completes within its steps left and the completing one. -/
theorem exists_run_completed {s : State} (h : RunsQuietly s) :
    ∃ n t, n ≤ stepsLeft s + 1 ∧ Host.Core.run Sys2Proof.core n s = .next t ∧ Completed t := by
  induction hm : stepsLeft s using Nat.strong_induction_on generalizing s with
  | _ m ih =>
    obtain ⟨t, hstep, hdone | ⟨hruns, hlt⟩⟩ := step_of_runsQuietly h
    · exact ⟨1, t, by omega, run_succ_of_step hstep 0, hdone⟩
    · obtain ⟨n, u, hn, hrun, hdone⟩ := ih _ (hm ▸ hlt) hruns rfl
      exact ⟨n + 1, u, by omega, (run_succ_of_step hstep n).trans hrun, hdone⟩

/-- Settles O41: every step of a running block comes closer to the completing one. -/
theorem everyIssuedCommandCompletes : Obligations.EveryIssuedCommandCompletes :=
  fun _ hinv hbusy hquiet => exists_run_completed ⟨hinv, hbusy, hquiet⟩

/-! ### The two reset sources (70 R220) -/

/-- Settles O44: both are `resetBlock`, which keeps BUF; the write is answered on the bus besides. -/
theorem resetSourcesHaveTheSameEffect : Obligations.ResetSourcesHaveTheSameEffect := by
  intro s rest
  refine ⟨resetBlock { s with agenda := rest }, rfl, fun v hv => ?_, ?_, bufByte_congr rfl rfl⟩
  · show Host.Outcome.next (serve _ { s with agenda := rest }) = _
    rw [serve_write_regAddr, writeReg_ctrl_reset hv]
    rfl
  · simp [readReg, ctrlWord, flag]

end Sys2Proof.Proofs
end

section
/-! PROOFS. The codecs' results as the host reads them: the emergency timer table (41 R142) and the exact values of
41 R148. -/

namespace Sys2Proof.Proofs

open Sys2Proof.Machine Sys2Proof.Safety

/-! ### What a TIMER that succeeds leaves (41 R141) -/

/-- The decode of ARG0 under timer table `k`. -/
def timerDecode (k : Nat) (hk : k < 4) (s : State) : TimerDecode :=
  decodeTimer s.tcfg[k].toNat s.bands[k].toList s.arg0.toNat

/-- The state that a TIMER which decoded to `d` leaves. -/
def timerCompleted (d : TimerDecode) (s : State) : State :=
  complete .ok false (setResult (trunc32 d.value) (lo32 d.band) d.aux s)

/-- A legal raw value of a legal table. -/
def TimerLegal (k : Nat) (hk : k < 4) (s : State) : Prop :=
  1 ≤ s.tcfg[k].toNat ∧ s.tcfg[k].toNat ≤ 16 ∧ s.arg0.toNat < 2 ^ s.tcfg[k].toNat

theorem exec_timer_of_timerLegal {k : Nat} {hk : k < 4} {s : State} (h : TimerLegal k hk s) :
    exec (.timer k) s = .next (timerCompleted (timerDecode k hk s) s) := by
  obtain ⟨hw1, hw16, hraw⟩ := h
  exact exec_timer_of_legal hk hw1 hw16 hraw rfl

/-- A TIMER that completes with OK had a legal raw value and a legal table. -/
theorem exec_timer_ok {k : Nat} (hk : k < 4) {s t : State} (h : exec (.timer k) s = .next t) (hok : t.err = .ok) :
    TimerLegal k hk s ∧ t = timerCompleted (timerDecode k hk s) s := by
  by_cases hbad : s.tcfg[k].toNat = 0 ∨ 16 < s.tcfg[k].toNat ∨ 2 ^ s.tcfg[k].toNat ≤ s.arg0.toNat
  · obtain rfl := Host.Outcome.next.inj ((exec_timer_badArg hk hbad).symm.trans h)
    cases hok
  · have hlegal : TimerLegal k hk s := ⟨by omega, by omega, by omega⟩
    exact ⟨hlegal, (Host.Outcome.next.inj ((exec_timer_of_timerLegal hlegal).symm.trans h)).symm⟩

theorem TimerLegal.raw_lt {k : Nat} {hk : k < 4} {s : State} (h : TimerLegal k hk s) : s.arg0.toNat < 2 ^ 16 := by
  obtain ⟨-, hw16, hraw⟩ := h
  exact hraw.trans_le (Nat.pow_le_pow_right (by decide) hw16)

/-- A decode's number fits RES_LO, and its band is one of the table. -/
theorem decodeTimer_fits (w : Nat) (bands : Vector Band 8) {raw : Nat} (hraw : raw < 2 ^ 16) :
    (trunc32 (decodeTimer w bands.toList raw).value).toInt = (decodeTimer w bands.toList raw).value ∧
      (decodeTimer w bands.toList raw).band < 8 := by
  unfold decodeTimer
  split_ifs
  · exact ⟨rfl, by decide⟩
  · exact ⟨rfl, by decide⟩
  · rcases searchBands_cases raw bands.toList 0 with ⟨pre, b, post, hsplit, -, -, hfound⟩ | ⟨-, hmiss⟩
    · have hlen : bands.toList.length = pre.length + (post.length + 1) := by rw [hsplit]; simp
      rw [hfound]
      exact ⟨toInt_trunc32_scale b hraw, by simp at hlen; show 0 + pre.length < 8; omega⟩
    · rw [hmiss]
      exact ⟨rfl, by decide⟩

/-- RES_AUX holds the kind in bits 1:0 and the unit in bits 3:2. -/
theorem toNat_timerAux (d : TimerDecode) :
    d.aux.toNat % 4 = d.kind.code.toNat ∧ d.aux.toNat / 4 % 4 = d.unit.toNat := by
  have hkind := d.kind.code.isLt
  have hunit := d.unit.isLt
  rw [timerAux_eq_ofNat, BitVec.toNat_ofNat]
  omega

theorem kind_code_injective : Function.Injective fun kind : TimerKind => kind.code.toNat := by
  intro a b h
  cases a <;> cases b <;> simp_all [TimerKind.code]

/-! ### The emergency table (41 R142) -/

/-- Of the raw values only the maximum, if it is not 0, decodes to INFINITY. -/
theorem decodeTimer_kind_infinity {w raw : Nat} {bs : List Band} (h : (decodeTimer w bs raw).kind = .infinity) :
    raw ≠ 0 ∧ raw = 2 ^ w - 1 := by
  unfold decodeTimer at h
  split_ifs at h with hzero hmax
  · exact ⟨hzero, hmax⟩
  · rcases searchBands_cases raw bs 0 with ⟨pre, b, post, -, -, -, hfound⟩ | ⟨-, hmiss⟩
    · rw [hfound] at h
      cases h
    · rw [hmiss] at h
      cases h

/-- The results a TIMER left determine the kind, the number and the unit it decoded to. -/
theorem decode_of_exec_timer {k : Nat} {hk : k < 4} {s t : State} {kind : TimerKind} {value : Int} {unit : BitVec 2}
    (h : exec (.timer k) s = .next t) (hok : t.err = .ok) (hlo : t.resLo.toInt = value)
    (haux : t.resAux = BitVec.ofNat 32 (4 * unit.toNat + kind.code.toNat)) :
    (timerDecode k hk s).kind = kind ∧ (timerDecode k hk s).value = value ∧ (timerDecode k hk s).unit = unit := by
  obtain ⟨hlegal, rfl⟩ := exec_timer_ok hk h hok
  obtain ⟨hkind, hunit⟩ := toNat_timerAux (timerDecode k hk s)
  obtain ⟨hvalue, -⟩ := decodeTimer_fits s.tcfg[k].toNat s.bands[k] hlegal.raw_lt
  have hword : (timerDecode k hk s).aux.toNat = 4 * unit.toNat + kind.code.toNat := by
    have := congrArg BitVec.toNat haux
    have hlt := kind.code.isLt
    have hult := unit.isLt
    rwa [BitVec.toNat_ofNat, Nat.mod_eq_of_lt (by omega)] at this
  have hlt := kind.code.isLt
  exact ⟨kind_code_injective (by dsimp only; omega), hvalue.symm.trans hlo, BitVec.eq_of_toNat_eq (by omega)⟩

/-- A table that decodes 511 to INFINITY has width 9. -/
theorem width_of_infinity_511 {w : Nat} {bs : List Band} (h : (decodeTimer w bs 511).kind = .infinity) : w = 9 := by
  obtain ⟨-, hmax⟩ := decodeTimer_kind_infinity h
  have hpow : 2 ^ w = 2 ^ 9 := by omega
  exact Nat.pow_right_injective (le_refl 2) hpow

/-- Under width 9 every raw value up to 511 is legal. -/
theorem timerLegal_of_width_9 {s : State} (hw : s.tcfg[0].toNat = 9) {raw : Word} (hraw : raw.toNat ≤ 511) :
    TimerLegal 0 (by decide) { s with arg0 := raw } := by
  refine ⟨?_, ?_, ?_⟩ <;> simp only [hw] <;> omega

/-- The outcome of TIMER for a raw value that decodes to a number. -/
theorem exec_timer_of_number {s : State} (hw : s.tcfg[0].toNat = 9) {raw : Word} (hraw : raw.toNat ≤ 511) {value : Int}
    {unit : BitVec 2} (h : (decodeTimer s.tcfg[0].toNat s.bands[0].toList raw.toNat).kind = .value ∧
      (decodeTimer s.tcfg[0].toNat s.bands[0].toList raw.toNat).value = value ∧
      (decodeTimer s.tcfg[0].toNat s.bands[0].toList raw.toNat).unit = unit) :
    ∃ b : Fin 8, exec (.timer 0) { s with arg0 := raw } = .next (complete .ok false { s with
      arg0 := raw, resLo := trunc32 value, resHi := BitVec.ofNat 32 b,
      resAux := BitVec.ofNat 32 (4 * unit.toNat) }) := by
  have hlegal := timerLegal_of_width_9 hw hraw
  obtain ⟨-, hband⟩ := decodeTimer_fits s.tcfg[0].toNat s.bands[0] hlegal.raw_lt
  obtain ⟨hkind, rfl, rfl⟩ := h
  refine ⟨⟨_, hband⟩, (exec_timer_of_timerLegal hlegal).trans ?_⟩
  rw [timerCompleted, timerAux_eq_ofNat]
  simp only [timerDecode, hkind]
  rfl

/-- Settles O24: INFINITY at 511 fixes the width 9, under which all four raw values are legal; TIMER's results hold the
kind, the number and the unit of the decode. -/
theorem emergencyTableGivesSourceOutcomes : Obligations.EmergencyTableGivesSourceOutcomes := by
  intro s
  simp only [MeetsEmergencyVectors, emergencyVectors, List.forall_mem_cons, Prod.mk.injEq]
  constructor
  · rintro ⟨-, ⟨hinf, -, -⟩, hfive, hten, -⟩
    have hw : s.tcfg[0].toNat = 9 := width_of_infinity_511 hinf
    refine ⟨?_, ?_, exec_timer_of_number (raw := 5) hw (by decide) hfive,
      exec_timer_of_number (raw := 41) hw (by decide) hten⟩
    · rw [exec_timer_of_timerLegal (timerLegal_of_width_9 hw (raw := 0) (by decide))]
      exact congrArg (fun d => Host.Outcome.next (timerCompleted d _)) (decodeTimer_zero _ _)
    · rw [exec_timer_of_timerLegal (timerLegal_of_width_9 hw (raw := 511) (by decide))]
      have hmax : timerDecode 0 (by decide) { s with arg0 := 511 } = ⟨.infinity, 0, 0, 0⟩ := by
        simp only [timerDecode, hw]
        exact decodeTimer_max (w := 9) (by decide) _
      rw [hmax]
      rfl
  · rintro ⟨hzero, hmax, ⟨b, hfive⟩, ⟨c, hten⟩⟩
    have hk : 0 < 4 := by decide
    exact ⟨decode_of_exec_timer (hk := hk) hzero rfl rfl rfl, decode_of_exec_timer (hk := hk) hmax rfl rfl rfl,
      decode_of_exec_timer (hk := hk) hfive rfl rfl rfl, decode_of_exec_timer (hk := hk) hten rfl rfl rfl, nofun⟩

/-! ### The exact values a host derives (41 R148) -/

/-- The number of a decode, with its unit code; none for a kind without one. -/
def decodedNumber (d : TimerDecode) : Option (Int × Nat) :=
  if d.kind = .value then some (d.value, d.unit.toNat) else none

/-- A host reads back exactly what TIMER decoded. -/
theorem timerNumber_of_exec {k : Nat} (hk : k < 4) {s t : State} (h : exec (.timer k) s = .next t) (hok : t.err = .ok) :
    timerNumber t = decodedNumber (timerDecode k hk s) := by
  obtain ⟨hlegal, rfl⟩ := exec_timer_ok hk h hok
  obtain ⟨hkind, hunit⟩ := toNat_timerAux (timerDecode k hk s)
  obtain ⟨hvalue, -⟩ := decodeTimer_fits s.tcfg[k].toNat s.bands[k] hlegal.raw_lt
  have hiff : (timerDecode k hk s).aux.toNat % 4 = 0 ↔ (timerDecode k hk s).kind = .value := by
    rw [hkind]
    exact kind_code_injective.eq_iff (b := .value)
  simp only [timerNumber, timerCompleted, complete_resAux, complete_resLo, setResult_resAux, setResult_resLo, hiff,
    hunit, decodedNumber]
  rw [timerDecode, hvalue]

/-- The sentinels have no number. -/
theorem decodedNumber_of_sentinel {w raw : Nat} (hw : 1 ≤ w) (bs : List Band) (h : raw = 0 ∨ raw = 2 ^ w - 1) :
    decodedNumber (decodeTimer w bs raw) = none := by
  rcases h with rfl | rfl
  · rw [decodeTimer_zero]
    rfl
  · rw [decodeTimer_max hw]
    rfl

/-- A raw value that no enabled band covers has no number, sentinel or not. -/
theorem decodedNumber_of_uncovered {w raw : Nat} (hw : 1 ≤ w) (hraw : raw < 2 ^ w) {bands : Vector Band 8}
    (hnone : ∀ b : Fin 8, ¬ bands[b].Covers raw) : decodedNumber (decodeTimer w bands.toList raw) = none := by
  by_cases hsentinel : raw = 0 ∨ raw = 2 ^ w - 1
  · exact decodedNumber_of_sentinel hw _ hsentinel
  · rw [decodeTimer_of_none (by omega) (by omega) hnone]
    rfl

theorem signedResult_of_lat {s t : State} (h : exec .lat s = .next t) : signedResult t = latitude s.arg0 := by
  obtain rfl := Host.Outcome.next.inj h
  obtain ⟨hlow, hhigh⟩ := latitude_bounds s.arg0
  exact toInt_signWord_append_trunc32 hlow.le hhigh

/-- The latitude as the sign of the hemisphere bit times the magnitude. -/
theorem latitude_eq_sign_mul (r : Word) :
    latitude r = (if r.getLsbD 31 then -1 else 1) * ((r.toNat % 2 ^ 31 : Nat) : Int) := by
  have hmag : (r.extractLsb' 0 31).toNat = r.toNat % 2 ^ 31 := by simp
  rw [latitude, hmag]
  split <;> ring

theorem latitudeDegrees_of_exec {s t : State} (h : exec .lat s = .next t) :
    latitudeDegrees t =
      (if s.arg0.getLsbD 31 then -1 else 1) * ((s.arg0.toNat % 2 ^ 31 : Nat) : ℚ) * 180 / 2 ^ 32 := by
  rw [latitudeDegrees, signedResult_of_lat h, latitude_eq_sign_mul]
  push_cast
  rfl

/-- A magnitude of 31 bits stays below the 2^31 that stand for 90 degrees. -/
theorem latitudeDegrees_bounds {s t : State} (h : exec .lat s = .next t) :
    -90 < latitudeDegrees t ∧ latitudeDegrees t < 90 := by
  obtain ⟨hlow, hhigh⟩ := latitude_bounds s.arg0
  have hlowQ : (-2 ^ 31 : ℚ) < latitude s.arg0 := by exact_mod_cast hlow
  have hhighQ : (latitude s.arg0 : ℚ) < 2 ^ 31 := by exact_mod_cast hhigh
  rw [latitudeDegrees, signedResult_of_lat h]
  constructor <;> linarith

theorem resAux_of_lat_eq_one_iff {s t : State} (h : exec .lat s = .next t) :
    t.resAux = 1 ↔ s.arg0.getLsbD 31 = true := by
  obtain rfl := Host.Outcome.next.inj h
  have hr := s.arg0.isLt
  show (0#31 ++ s.arg0.extractLsb' 31 1 : Word) = 1 ↔ _
  rw [hemisphere_eq, ← BitVec.toNat_inj, BitVec.toNat_ofNat, BitVec.getLsbD, Nat.testBit_eq_decide_div_mod_eq,
    decide_eq_true_iff]
  show s.arg0.toNat / 2 ^ 31 % 2 ^ 32 = 1 ↔ _
  omega

theorem longitudeDegrees_of_exec {s t : State} (h : exec .lon s = .next t) :
    longitudeDegrees t = (s.arg0.toInt : ℚ) * 360 / 2 ^ 32 := by
  obtain rfl := Host.Outcome.next.inj h
  have hsigned : (signWord s.arg0.toInt ++ s.arg0).toInt = s.arg0.toInt := by
    simpa [trunc32] using toInt_signWord_append_trunc32 s.arg0.le_toInt s.arg0.toInt_lt
  exact congrArg (fun x : Int => (x : ℚ) * 360 / 2 ^ 32) hsigned

theorem longitudeDegrees_bounds {s t : State} (h : exec .lon s = .next t) :
    -180 ≤ longitudeDegrees t ∧ longitudeDegrees t < 180 := by
  have hlowQ : (-2 ^ 31 : ℚ) ≤ s.arg0.toInt := by exact_mod_cast s.arg0.le_toInt
  have hhighQ : (s.arg0.toInt : ℚ) < 2 ^ 31 := by exact_mod_cast s.arg0.toInt_lt
  rw [longitudeDegrees_of_exec h]
  constructor <;> linarith

/-- SCALE by a row of the table: the product over DEN, and the row's unit. -/
theorem scaledValue_of_exec {f : Nat} (hf : f ≤ 2) {s t : State} (h : exec (.scale f) s = .next t) :
    scaledValue t = ((s.arg0.toNat * scaleNum f : Nat) : ℚ) / (scaleDen f : ℚ) ∧ t.resAux.toNat / 2 ^ 16 = f := by
  obtain rfl := Host.Outcome.next.inj ((exec_scale_of_le hf s).symm.trans h)
  have hden : scaleDen f < 2 ^ 16 := by
    unfold scaleDen
    split <;> decide
  have hmod : (scaleDen f + f * 2 ^ 16) % 2 ^ 16 = scaleDen f := by omega
  simp only [scaledValue, unsignedResult, complete_resAux, complete_resLo, complete_resHi, setResult_resAux,
    setResult_resLo, setResult_resHi, toNat_hi32_append_lo32 (mul_scaleNum_lt s.arg0 f), toNat_scaleAux hf, hmod]
  exact ⟨trivial, by omega⟩

/-- Settles O28: the results are the integers of O23 and O25 to O27, and the host's formulas are exact on them. -/
theorem codecResultsAreExactRationals : Obligations.CodecResultsAreExactRationals := by
  intro s t
  refine ⟨fun k hk h hok => ?_,
    fun h => ⟨latitudeDegrees_of_exec h, (latitudeDegrees_bounds h).1, (latitudeDegrees_bounds h).2,
      resAux_of_lat_eq_one_iff h⟩,
    fun h => ⟨longitudeDegrees_of_exec h, longitudeDegrees_bounds h⟩, fun h => ?_, fun h => ?_, fun h => ?_⟩
  · obtain ⟨⟨hw1, -, hraw⟩, -⟩ := exec_timer_ok hk h hok
    rw [timerNumber_of_exec hk h hok, timerDecode]
    refine ⟨decodedNumber_of_sentinel hw1 _, decodedNumber_of_uncovered hw1 hraw,
      fun hpos hmax b hen hlo hhi hfirst => ?_⟩
    rw [decodeTimer_of_first hpos hmax ⟨hen, hlo, hhi⟩ hfirst]
    rfl
  all_goals
    obtain ⟨hvalue, hunit⟩ := scaledValue_of_exec (by decide) h
    refine ⟨hvalue.trans ?_, hunit⟩
    simp [scaleNum, scaleDen, mul_comm]

end Sys2Proof.Proofs
end

section
/-! PROOFS. The bus: the register map (10_state.md, section 6), reads (20 R63, R66), reserved space (10 R39), the
pseudo-instruction `load` (30 R90), and what the operand registers and STATUS do with a write (20 R66, 10 R23). -/

namespace Sys2Proof.Proofs

open Sys2Proof.Machine Sys2Proof.Safety

/-! ### The register map (10_state.md, section 6) -/

/-- Settles O54: `locate` and `Reg.offset` are inverse to each other on the aligned offsets; the numbers of the map are
the offsets. -/
theorem registerMapHasNoAliases : Obligations.RegisterMapHasNoAliases := by
  refine ⟨?_, fun k => locate_offset (.offs k), fun k => ⟨locate_offset (.segStart k), locate_offset (.segLen k)⟩,
    fun a => ⟨locate_offset (.algPoly a), locate_offset (.algInit a), locate_offset (.algXorout a),
      locate_offset (.algCfg a), locate_offset (.tcfg a)⟩,
    fun t b => ⟨locate_offset (.bandRange t b), locate_offset (.bandMult t b), locate_offset (.bandOffset t b),
      locate_offset (.bandFlags t b)⟩,
    locate_offset, fun a r hal => offset_of_locate hal, fun r r' h => ?_⟩
  · decide
  · have hsame : some r = some r' := by rw [← locate_offset r, ← locate_offset r', h]
    exact Option.some.inj hsame

/-! ### Reads (20 R63, R66) -/

/-- Settles O52: a read only answers. -/
theorem readsHaveNoSideEffect : Obligations.ReadsHaveNoSideEffect := by
  intro s size addr
  exact ⟨⟨readTarget (target s.bufBytes size addr) s, decide (target s.bufBytes size addr = .busError)⟩,
    serve_read size addr s⟩

theorem serve_read_of_target {s : State} {size : Size} {addr : BitVec 16} {t : Target}
    (ht : target s.bufBytes size addr = t) (hne : t ≠ .busError) :
    serve (.read size addr) s = answered (readTarget t s) s := by
  rw [serve_read, ht, respond_eq_answered hne]

/-- Four bytes in little-endian lanes, as a number. -/
theorem bufWord_eq_ofNat (s : State) (k : Nat) :
    bufWord s k = BitVec.ofNat 32 ((bufByte s k).toNat + (bufByte s (k + 1)).toNat * 2 ^ 8 +
      (bufByte s (k + 2)).toNat * 2 ^ 16 + (bufByte s (k + 3)).toNat * 2 ^ 24) := by
  have hlane : ∀ j, (bufByte s j).toNat < 2 ^ 8 := fun j => (bufByte s j).isLt
  have h0 := hlane k
  have h1 := hlane (k + 1)
  have h2 := hlane (k + 2)
  have h3 := hlane (k + 3)
  refine BitVec.eq_of_toNat_eq ?_
  rw [bufWord, toNat_append_eq_add, toNat_append_eq_add, toNat_append_eq_add, BitVec.toNat_ofNat]
  omega

/-- Zeros above a field do not change its number. -/
theorem toNat_zero_append {m n : Nat} (x : BitVec n) : (0#m ++ x).toNat = x.toNat := by
  rw [toNat_append_eq_add, BitVec.toNat_ofNat, Nat.zero_mod, Nat.zero_mul, Nat.zero_add]

/-- Settles O51: a legal BUF address reaches its byte, or its four bytes. -/
theorem bufReadsReturnLanes : Obligations.BufReadsReturnLanes := by
  intro s hs
  refine ⟨fun k hk => ?_, fun k hal hk => ?_⟩
  · have hbyte : (0#24 ++ bufByte s k : Word) = BitVec.ofNat 32 (bufByte s k).toNat := by
      refine BitVec.eq_of_toNat_eq ?_
      rw [toNat_zero_append, BitVec.toNat_ofNat]
      have := (bufByte s k).isLt
      omega
    rw [serve_read_of_target (target_byte_bufAddr hs hk) (by simp), ← hbyte]
    rfl
  · rw [serve_read_of_target (target_word_bufAddr hs hal hk) (by simp), ← bufWord_eq_ofNat]
    rfl

theorem toNat_flag (b : Bool) : (flag b).toNat = b.toNat := BitVec.toNat_ofBool b

/-- PARAM's 16 bits hold every legal BUF_BYTES. -/
theorem toNat_readReg_param {s : State} (hs : LegalSize s) : (readReg .param s).toNat = s.bufBytes := by
  have hmax : s.bufBytes ≤ 8192 := hs.2
  show (0#16 ++ BitVec.ofNat 16 s.bufBytes).toNat = s.bufBytes
  rw [toNat_zero_append, BitVec.toNat_ofNat]
  omega

theorem toNat_readReg_bandRange (s : State) (t : Fin 4) (b : Fin 8) :
    (readReg (.bandRange t b) s).toNat = s.bands[t][b].lo.toNat + s.bands[t][b].hi.toNat * 2 ^ 16 :=
  (toNat_append_eq_add ..).trans (Nat.add_comm ..)

theorem toNat_readReg_bandFlags (s : State) (t : Fin 4) (b : Fin 8) :
    (readReg (.bandFlags t b) s).toNat = s.bands[t][b].en.toNat + s.bands[t][b].unit.toNat * 2 := by
  show ((0#29 ++ s.bands[t][b].unit) ++ flag s.bands[t][b].en).toNat = _
  rw [toNat_append_eq_add, toNat_zero_append, toNat_flag, pow_one, Nat.add_comm]

/-- Settles O55: a register's address reaches it; the registers with reserved bits hold their fields below zeros. -/
theorem registerReadsReturnTheRegisters : Obligations.RegisterReadsReturnTheRegisters := by
  intro s
  refine ⟨fun r => serve_read_of_target (target_regAddr s.bufBytes r) (by simp), rfl, rfl, toNat_readReg_param,
    (toNat_zero_append _).trans (toNat_flag s.ie), rfl, rfl, rfl, rfl, rfl, rfl, toNat_zero_append _, rfl, rfl, rfl,
    fun _ => rfl, fun _ => ⟨rfl, rfl⟩, fun _ => ⟨rfl, rfl, rfl, toNat_zero_append _⟩, fun _ => toNat_zero_append _,
    fun t b => ⟨toNat_readReg_bandRange s t b, toNat_zero_append _, toNat_zero_append _,
      toNat_readReg_bandFlags s t b⟩⟩

/-! ### Reserved space (10 R39) -/

theorem serve_read_reservedAddr {s : State} {addr : BitVec 16} (hal : addr.toNat % 4 = 0)
    (h : ReservedAddr s.bufBytes addr.toNat) : serve (.read .word addr) s = answered 0 s :=
  serve_read_of_target (target_of_reservedAddr hal h) (by simp)

theorem target_byte_of_reservedAddr {n : Nat} {addr : BitVec 16} (h : ReservedAddr n addr.toNat) :
    target n .byte addr = .busError := by
  unfold ReservedAddr at h
  rcases target_byte_cases n addr with ⟨hlo, hhi, -⟩ | ⟨-, ht⟩
  · omega
  · exact ht

/-- Settles O57: a word access of a reserved address has the target `reserved`, a byte access is a bus error. -/
theorem reservedSpaceReadsZeroAndIgnoresWrites : Obligations.ReservedSpaceReadsZeroAndIgnoresWrites := by
  intro s addr v h
  refine ⟨fun hal => ⟨serve_read_reservedAddr hal h, serve_write_reservedAddr v hal h⟩, ?_, ?_⟩
  · rw [serve_read, target_byte_of_reservedAddr h]
    rfl
  · rw [serve_write, target_byte_of_reservedAddr h]
    rfl

/-! ### `load` (30 R90) -/

/-- The accesses of a script, served in order. -/
def serveAll (accesses : List Access) (s : State) : State := accesses.foldl (fun u a => serve a u) s

/-- A byte write of a script stores the byte. -/
theorem serve_scriptByte {s : State} (hs : LegalSize s) (hidle : s.busy = false) (hopen : s.isSealed = false) {k : Nat}
    (hk : k < s.bufBytes) (b : Byte) :
    serve (.write .byte (BitVec.ofNat 16 (bufBase + k)) (b.setWidth 32)) s = answered 0 (setBufByte k b s) := by
  have hbyte : (b.setWidth 32).extractLsb' 0 8 = b := BitVec.eq_of_toNat_eq (by simpa using b.isLt)
  calc serve (.write .byte (BitVec.ofNat 16 (bufBase + k)) (b.setWidth 32)) s =
        answered 0 (storeOpen (setBufByte k ((b.setWidth 32).extractLsb' 0 8)) s) := serve_write_byte_bufAddr _ hs hk
    _ = answered 0 (setBufByte k b s) := by rw [hbyte, storeOpen_open hopen hidle]

/-- The byte writes of `load` from `BUF[k]` on: BUF holds the bytes there, and nothing else changes. -/
theorem serveAll_scriptBytes (bytes : List Byte) {s : State} (hs : LegalSize s) (hidle : s.busy = false)
    (hopen : s.isSealed = false) {k : Nat} (hk : k + bytes.length ≤ s.bufBytes) :
    let t := serveAll (scriptAccesses (scriptBytes bytes k)) s
    t = { s with mem := t.mem, responses := t.responses } ∧
      ∀ j, bufByte t j = if j < k then bufByte s j else bytes.getD (j - k) (bufByte s j) := by
  induction bytes generalizing s k with
  | nil => exact ⟨rfl, fun j => by simp [serveAll, scriptAccesses, scriptBytes]⟩
  | cons b bytes ih =>
    rw [List.length_cons] at hk
    have hrest := ih (s := answered 0 (setBufByte k b s)) hs hidle hopen (k := k + 1) (by
      show k + 1 + bytes.length ≤ s.bufBytes
      omega)
    have hfirst : serveAll (scriptAccesses (scriptBytes (b :: bytes) k)) s =
        serveAll (scriptAccesses (scriptBytes bytes (k + 1))) (answered 0 (setBufByte k b s)) := by
      rw [← serve_scriptByte hs hidle hopen (by omega) b]
      rfl
    rw [← hfirst] at hrest
    obtain ⟨hframe, hbytes⟩ := hrest
    refine ⟨hframe, fun j => ?_⟩
    rw [hbytes j, bufByte_answered, bufByte_setBufByte]
    rcases lt_trichotomy j k with hlt | rfl | hgt
    · rw [if_pos (by omega), if_neg (by omega), if_pos hlt]
    · rw [if_pos (by omega), if_pos rfl, if_neg (by omega), Nat.sub_self, List.getD_cons_zero]
    · obtain ⟨d, rfl⟩ := Nat.exists_eq_add_of_lt hgt
      rw [if_neg (by omega), if_neg (by omega), if_neg (by omega), show k + d + 1 - k = d + 1 by omega,
        show k + d + 1 - (k + 1) = d by omega, List.getD_cons_succ]

/-- Settles O49: the byte writes fill BUF from 0, and the last write stores BUF_LEN. -/
theorem loadFillsTheBuffer : Obligations.LoadFillsTheBuffer := by
  intro s bytes hs hidle hopen hlen t
  obtain ⟨hframe, hbytes⟩ := serveAll_scriptBytes bytes hs hidle hopen (k := 0) (by omega)
  generalize hu : serveAll (scriptAccesses (scriptBytes bytes 0)) s = u at hframe hbytes
  have hlast : t = answered 0 { u with bufLen := BitVec.ofNat 32 (8 * bytes.length) } := by
    have hsplit : t = serve (.write .word (regAddr .bufLen) (BitVec.ofNat 32 (8 * bytes.length))) u := by
      rw [← hu]
      simp only [t, scriptAccesses, scriptLoad, List.filterMap_append, List.foldl_append]
      rfl
    rw [hsplit, serve_write_regAddr, writeReg, storeOpen_open] <;> rw [hframe] <;> assumption
  refine ⟨?_, fun k => ?_⟩
  · rw [hlast, hframe]
    rfl
  · rw [hlast, bufByte_answered]
    show bufByte u k = _
    simpa using hbytes k

end Sys2Proof.Proofs
end

section
/-! PROOFS. What an idle block's operand registers hold after a write (20 R66, 10 R25 to R34), and STATUS (10 R23). -/

namespace Sys2Proof.Proofs

open Sys2Proof.Machine Sys2Proof.Safety

/-! ### The defined bits of a word (10 R25 to R34) -/

theorem and_allOnes (v : Word) : v &&& 0xFFFFFFFF = v := BitVec.and_allOnes

/-- The low bits of a word under zeros are the word masked to them. -/
theorem toNat_lowBits (v : Word) (m : Nat) {n : Nat} (hn : n ≤ 32) :
    (0#m ++ v.extractLsb' 0 n).toNat = (v &&& BitVec.ofNat 32 (2 ^ n - 1)).toNat := by
  have hpow : 2 ^ n ≤ 2 ^ 32 := Nat.pow_le_pow_right (by decide) hn
  have hpos := Nat.two_pow_pos n
  rw [toNat_zero_append, BitVec.extractLsb'_toNat, Nat.shiftRight_zero, BitVec.toNat_and, BitVec.toNat_ofNat,
    Nat.mod_eq_of_lt (b := 2 ^ 32) (by omega), Nat.and_two_pow_sub_one_eq_mod]

theorem halves_append (v : Word) : (v.extractLsb' 16 16 ++ v.extractLsb' 0 16 : Word) = v := by
  have hv := v.isLt
  refine BitVec.eq_of_toNat_eq ?_
  rw [toNat_append_eq_add, BitVec.extractLsb'_toNat, BitVec.extractLsb'_toNat, Nat.shiftRight_eq_div_pow,
    Nat.shiftRight_zero]
  omega

/-- EN and UNIT together are the low three bits (10 R34). -/
theorem bandFlags_append (v : Word) :
    (0#29 ++ v.extractLsb' 1 2 ++ flag (v.getLsbD 0) : Word) = v &&& 0x7 := by
  have hmask : (v &&& 0x7).toNat = v.toNat % 2 ^ 3 := by
    rw [BitVec.toNat_and]
    exact Nat.and_two_pow_sub_one_eq_mod v.toNat 3
  refine BitVec.eq_of_toNat_eq ?_
  rw [hmask, toNat_append_eq_add, toNat_zero_append, toNat_flag, BitVec.extractLsb'_toNat, BitVec.getLsbD,
    Nat.toNat_testBit, Nat.shiftRight_eq_div_pow]
  omega

/-! ### The tables after one entry is replaced -/

theorem getElem_set_fin {α : Type} {n : Nat} (xs : Vector α n) (k j : Fin n) (x : α) :
    (xs.set k x)[j] = if j = k then x else xs[j] := by
  simp [Vector.getElem_set, Fin.ext_iff, eq_comm (a := k.val)]

theorem setSeg_entry (k j : Fin 16) (g : Segment) (s : State) :
    (setSeg k g s).seg[j] = if j = k then g else s.seg[j] := getElem_set_fin s.seg k j g

theorem setAlg_entry (a j : Fin 4) (g : AlgSlot) (s : State) :
    (setAlg a g s).alg[j] = if j = a then g else s.alg[j] := getElem_set_fin s.alg a j g

theorem setBand_entry (t u : Fin 4) (b c : Fin 8) (d : Band) (s : State) :
    (setBand t b d s).bands[u][c] = if u = t ∧ c = b then d else s.bands[u][c] := by
  rw [setBand_bands, getElem_set_fin]
  by_cases hu : u = t
  · rw [if_pos hu, ← hu, getElem_set_fin]
    simp
  · rw [if_neg hu, if_neg fun h => hu h.1]

/-! ### What the registers read as after an update -/

section Updates

variable (r : Reg) (s : State)

theorem readReg_answered (d : Word) : readReg r (answered d s) = readReg r s := by
  cases r <;> rfl

theorem readReg_arg0 (v : Word) : readReg r { s with arg0 := v } = if r = .arg0 then v else readReg r s := by
  cases r <;> rfl

theorem readReg_arg1 (v : Word) : readReg r { s with arg1 := v } = if r = .arg1 then v else readReg r s := by
  cases r <;> rfl

theorem readReg_bufLen (v : Word) : readReg r { s with bufLen := v } = if r = .bufLen then v else readReg r s := by
  cases r <;> rfl

theorem readReg_segCount (n : BitVec 5) :
    readReg r { s with segCount := n } = if r = .segCnt then 0#27 ++ n else readReg r s := by
  cases r <;> rfl

theorem readReg_setOffs (k : Fin 64) (v : Word) :
    readReg r { s with offs := s.offs.set k v } = if r = .offs k then v else readReg r s := by
  cases r with
  | offs j => simp only [readReg, getElem_set_fin, Reg.offs.injEq]
  | _ => rfl

theorem readReg_setTcfg (t : Fin 4) (n : BitVec 5) :
    readReg r { s with tcfg := s.tcfg.set t n } = if r = .tcfg t then 0#27 ++ n else readReg r s := by
  cases r with
  | tcfg j =>
    simp only [readReg, getElem_set_fin, Reg.tcfg.injEq]
    split <;> rfl
  | _ => rfl

theorem readReg_setSeg (k : Fin 16) (g : Segment) :
    readReg r (setSeg k g s) =
      if r = .segStart k then g.start else if r = .segLen k then g.len else readReg r s := by
  cases r with
  | segStart j | segLen j =>
    simp only [readReg, setSeg_entry, Reg.segStart.injEq, Reg.segLen.injEq, reduceCtorEq, if_false]
    split <;> rfl
  | _ => rfl

theorem readReg_setAlg (a : Fin 4) (g : AlgSlot) :
    readReg r (setAlg a g s) =
      if r = .algPoly a then g.poly else if r = .algInit a then g.init else if r = .algXorout a then g.xorout
      else if r = .algCfg a then 0#26 ++ g.width else readReg r s := by
  cases r with
  | algPoly j | algInit j | algXorout j | algCfg j =>
    simp only [readReg, setAlg_entry, Reg.algPoly.injEq, Reg.algInit.injEq, Reg.algXorout.injEq, Reg.algCfg.injEq,
      reduceCtorEq, if_false]
    split <;> rfl
  | _ => rfl

theorem readReg_setBand (t : Fin 4) (b : Fin 8) (d : Band) :
    readReg r (setBand t b d s) =
      if r = .bandRange t b then d.hi ++ d.lo else if r = .bandMult t b then 0#16 ++ d.mult
      else if r = .bandOffset t b then 0#16 ++ d.offset
      else if r = .bandFlags t b then 0#29 ++ d.unit ++ flag d.en else readReg r s := by
  cases r with
  | bandRange u c | bandMult u c | bandOffset u c | bandFlags u c =>
    simp only [readReg, setBand_entry, Reg.bandRange.injEq, Reg.bandMult.injEq, Reg.bandOffset.injEq,
      Reg.bandFlags.injEq, reduceCtorEq, if_false]
    split <;> rfl
  | _ => rfl

end Updates

/-! ### Operand writes to an idle block (20 R66, 10 R26, R36) -/

/-- After an operand write to an idle block the register reads as the value masked to its defined bits, and every other
register as before: a word of a table entry is replaced together with the entry's other words, which stay. -/
theorem readReg_writeReg_operand {r : Reg} (hr : operandReg r = true) (v : Word) {s : State} (hidle : s.busy = false)
    (hopen : r = .bufLen → s.isSealed = false) (r' : Reg) :
    readReg r' (writeReg r v s) = if r' = r then v &&& definedBits r else readReg r' s := by
  cases r with
  | id | version | param | ctrl | status | cmd | vbase | vlen | resLo | resHi | resAux => cases hr
  | arg0 =>
    rw [writeReg, storeIdle_idle hidle, readReg_arg0, definedBits, and_allOnes]
  | arg1 =>
    rw [writeReg, storeIdle_idle hidle, readReg_arg1, definedBits, and_allOnes]
  | bufLen =>
    rw [writeReg, storeOpen_open (hopen rfl) hidle, readReg_bufLen, definedBits, and_allOnes]
  | segCnt =>
    rw [writeReg, storeIdle_idle hidle, readReg_segCount, definedBits]
    exact if_congr Iff.rfl (BitVec.eq_of_toNat_eq (toNat_lowBits v 27 (n := 5) (by decide))) rfl
  | offs k =>
    rw [writeReg, storeIdle_idle hidle, readReg_setOffs, definedBits, and_allOnes]
  | tcfg t =>
    rw [writeReg, storeIdle_idle hidle, readReg_setTcfg, definedBits]
    exact if_congr Iff.rfl (BitVec.eq_of_toNat_eq (toNat_lowBits v 27 (n := 5) (by decide))) rfl
  | segStart k | segLen k =>
    rw [writeReg, storeIdle_idle hidle, readReg_setSeg, definedBits, and_allOnes]
    split_ifs <;> simp_all only [readReg, reduceCtorEq]
  | algPoly a | algInit a | algXorout a =>
    rw [writeReg, storeIdle_idle hidle, readReg_setAlg, definedBits, and_allOnes]
    split_ifs <;> simp_all only [readReg, reduceCtorEq]
  | algCfg a =>
    have hwidth : (0#26 ++ v.extractLsb' 0 6 : Word) = v &&& 0x3F :=
      BitVec.eq_of_toNat_eq (toNat_lowBits v 26 (n := 6) (by decide))
    rw [writeReg, storeIdle_idle hidle, readReg_setAlg, definedBits, ← hwidth]
    split_ifs <;> simp_all only [readReg, reduceCtorEq]
  | bandRange t b =>
    rw [writeReg, storeIdle_idle hidle, readReg_setBand, definedBits, and_allOnes, halves_append]
    split_ifs <;> simp_all only [readReg, reduceCtorEq]
  | bandMult t b | bandOffset t b =>
    have hhalf : (0#16 ++ v.extractLsb' 0 16 : Word) = v &&& 0xFFFF :=
      BitVec.eq_of_toNat_eq (toNat_lowBits v 16 (n := 16) (by decide))
    rw [writeReg, storeIdle_idle hidle, readReg_setBand, definedBits, ← hhalf]
    split_ifs <;> simp_all only [readReg, reduceCtorEq]
  | bandFlags t b =>
    rw [writeReg, storeIdle_idle hidle, readReg_setBand, definedBits, bandFlags_append]
    split_ifs <;> simp_all only [readReg, reduceCtorEq]

/-- A write to an operand register neither touches BUF nor issues a command. -/
theorem writeReg_operand_frame {r : Reg} (hr : operandReg r = true) (v : Word) (s : State) :
    (∀ k, bufByte (writeReg r v s) k = bufByte s k) ∧ (writeReg r v s).pending = s.pending ∧
      (writeReg r v s).progress = s.progress := by
  have heffect : WriteEffect (.reg r) v s (writeReg r v s) := writeTarget_effect (.reg r) v s
  generalize writeReg r v s = t at heffect ⊢
  cases heffect with
  | ignored | dropped | enable | clear | overflow | operand | length => exact ⟨bufByte_congr rfl rfl, rfl, rfl⟩
  | softReset h | issued h =>
    obtain rfl := Target.reg.inj h
    cases hr
  | byte _ _ k h | word _ _ k h => cases h

/-- Settles O56: what every register reads as after the write, the frame of BUF and the engine, and the lock of
BUF_LEN. -/
theorem operandWritesStoreDefinedBits : Obligations.OperandWritesStoreDefinedBits := by
  intro s v hidle
  refine ⟨fun r hr hopen => ?_, fun hs => ?_⟩
  · rw [serve_write_regAddr]
    obtain ⟨hbuf, hpending, hprogress⟩ := writeReg_operand_frame hr v s
    have hread := readReg_writeReg_operand hr v hidle hopen
    refine ⟨?_, fun r' hne => ?_, hbuf, hpending, hprogress⟩
    · rw [readReg_answered, hread, if_pos rfl]
    · rw [readReg_answered, hread, if_neg hne]
  · rw [serve_write_regAddr, writeReg, storeOpen_locked (.inl hs)]
    rfl

/-! ### STATUS (10 R23, R38) -/

/-- STATUS as a number: each field at its place. -/
theorem toNat_statusWord (s : State) :
    (statusWord s).toNat = s.busy.toNat + s.done.toNat * 2 ^ 1 + s.cached.toNat * 2 ^ 2 + s.isSealed.toNat * 2 ^ 3 +
      s.validity.bits.toNat * 2 ^ 4 + s.err.code.toNat * 2 ^ 8 + s.werr.toNat * 2 ^ 12 + s.ovf.toNat * 2 ^ 13 := by
  simp only [statusWord, toNat_append_eq_add, toNat_flag, BitVec.toNat_ofNat]
  omega

/-- The four flags in bits 3:0. -/
theorem lowFlags_lt (s : State) :
    s.busy.toNat + s.done.toNat * 2 ^ 1 + s.cached.toNat * 2 ^ 2 + s.isSealed.toNat * 2 ^ 3 < 2 ^ 4 := by
  have hbusy := s.busy.toNat_le
  have hdone := s.done.toNat_le
  have hcached := s.cached.toNat_le
  have hsealed := s.isSealed.toNat_le
  omega

theorem statusWord_validity (s : State) : (statusWord s).extractLsb' 4 2 = s.validity.bits := by
  have hvalidity := s.validity.bits.isLt
  have hflags := lowFlags_lt s
  refine BitVec.eq_of_toNat_eq ?_
  rw [BitVec.extractLsb'_toNat, toNat_statusWord, Nat.shiftRight_eq_div_pow]
  omega

theorem statusWord_err (s : State) : (statusWord s).extractLsb' 8 4 = s.err.code := by
  have hvalidity := s.validity.bits.isLt
  have hcode := s.err.code.isLt
  have hflags := lowFlags_lt s
  refine BitVec.eq_of_toNat_eq ?_
  rw [BitVec.extractLsb'_toNat, toNat_statusWord, Nat.shiftRight_eq_div_pow]
  omega

theorem getLsbD_flag (b : Bool) (i : Nat) : (flag b).getLsbD i = if i = 0 then b else false := by
  by_cases h : i = 0 <;> simp [flag, h]

/-- STATUS bit by bit. -/
theorem getLsbD_statusWord (s : State) (i : Nat) :
    (statusWord s).getLsbD i =
      if i = 0 then s.busy else if i = 1 then s.done else if i = 2 then s.cached else if i = 3 then s.isSealed
      else if i < 6 then s.validity.bits.getLsbD (i - 4) else if i < 8 then false
      else if i < 12 then s.err.code.getLsbD (i - 8) else if i = 12 then s.werr
      else if i = 13 then s.ovf else false := by
  simp only [statusWord, BitVec.getLsbD_append, getLsbD_flag, BitVec.getLsbD_zero]
  rcases i with _ | _ | _ | _ | i
  · rfl
  · rfl
  · rfl
  · rfl
  · simp only [Nat.add_sub_cancel]
    grind

theorem statusWord_reserved (s : State) : statusWord s &&& 0xFFFFC0C0 = 0 := by
  have hmask : ∀ i < 32, (0xFFFFC0C0 : Word).getLsbD i = decide (i = 6 ∨ i = 7 ∨ 14 ≤ i) := by decide
  refine BitVec.eq_of_getLsbD_eq fun i hi => ?_
  have hzero : (0 : Word).getLsbD i = false := BitVec.getLsbD_zero
  rw [BitVec.getLsbD_and, getLsbD_statusWord, hmask i hi, hzero]
  grind

/-- A clearing write reaches the bits 1, 12 and 13 of the mask, and keeps every other bit. -/
theorem statusWord_clearStatus (v : Word) (s : State) :
    statusWord (clearStatus v s) = statusWord s &&& ~~~(v &&& 0x00003002) := by
  have hmask : ∀ i < 32, (0x00003002 : Word).getLsbD i = decide (i = 1 ∨ i = 12 ∨ i = 13) := by decide
  refine BitVec.eq_of_getLsbD_eq fun i hi => ?_
  rw [BitVec.getLsbD_and, BitVec.getLsbD_not, BitVec.getLsbD_and, hmask i hi, getLsbD_statusWord, getLsbD_statusWord]
  by_cases h : i = 1 ∨ i = 12 ∨ i = 13
  · rcases h with rfl | rfl | rfl <;> simp
  · have hkept : (decide (i < 32) && !(v.getLsbD i && decide (i = 1 ∨ i = 12 ∨ i = 13))) = true := by simp [h, hi]
    rw [hkept, Bool.and_true]
    grind [clearStatus]

/-- Settles O58: the fields' places by the number of STATUS, a clearing write bit by bit. -/
theorem statusIsWriteOneToClear : Obligations.StatusIsWriteOneToClear := by
  intro s v
  refine ⟨?_, ?_, statusWord_reserved s, ?_, ?_⟩
  · refine (toNat_statusWord s).trans ?_
    cases s.validity <;> cases s.err <;> rfl
  · rw [serve_write_regAddr, readReg_answered]
    exact statusWord_clearStatus v s
  · rw [readReg, statusWord_validity]
    cases s.validity <;> decide
  · rw [readReg, statusWord_err]
    cases s.err <;> decide

end Sys2Proof.Proofs
end
